-- ==== Sys2Proof/Word.lean ====
section
/-! DEFINITION. The 32-bit word of the block (00_scope.md R8, R9). -/

namespace Sys2Proof

/-- A `word32`, bit 0 least significant (R8); every FixedPoint value is one (R9). `sint32(w)` is `w.toInt`, the
two's-complement value, and `uint32(w)` is `w.toNat`. -/
abbrev Word := BitVec 32

end Sys2Proof
end

