-- ==== Sys2Proof/Syntax.lean ====
section
/-! DEFINITION. The operations of the block: one constructor per row of spec/opcode_table.json, the raw
command tuple of the host port, and the steps the four agents can take. -/

namespace Sys2Proof

/-- The eleven host commands with the operand words they read (30_encoding.md R84; a word a command
ignores is no part of it) and the five micro-operations (R87). -/
inductive Instr where
  /-- `NOP` (R189). -/
  | nop
  /-- `TOFIX n` (R105). -/
  | tofix (a : Word)
  /-- `FROMFIX x` (R106). -/
  | fromfix (a : Word)
  /-- `MUL a, b` (R107). -/
  | mul (a b : Word)
  /-- `CLAMP x, lo, hi` (R108). -/
  | clamp (a b c : Word)
  /-- `VEL count, interval` (R137). -/
  | vel (a b : Word)
  /-- `RDCLR` (R124). -/
  | rdclr
  /-- `PISTEP target, measured` (R156). -/
  | pistep (a b : Word)
  /-- `APPLY percent` (R172). -/
  | apply (a : Word)
  /-- `CANCEL` (R187). -/
  | cancel
  /-- `RDREG rn` (R188). -/
  | rdreg (rn : BitVec 4)
  /-- `uWAIT`, `PHASE = 000` (R182), performed by the `TICK` event (R87). -/
  | uWait
  /-- `uSAMPLE`, `PHASE = 001` (R183). -/
  | uSample
  /-- `uPI`, `PHASE = 010` (R184). -/
  | uPi
  /-- `uAPPLY`, `PHASE = 011` (R185). -/
  | uApply
  /-- `uDIAG`, `PHASE = 100` (R186). -/
  | uDiag
  deriving DecidableEq, Repr

/-- What the host presents at the command port: the 8-bit command word and the operand words (R80). -/
structure Command where
  cmd : BitVec 8
  a : Word
  b : Word
  c : Word
  deriving DecidableEq, Repr, Inhabited

/-- The two encodings of the block: a command tuple (R80) or a value of `PHASE` (R87). -/
inductive Code where
  | command (c : Command)
  | phase (p : BitVec 3)
  deriving DecidableEq, Repr

/-- One step of one agent (00_scope.md R12; 20_memory.md R65). -/
inductive AgentStep where
  /-- A rising edge of the feedback line (R122). -/
  | edge
  /-- One millisecond has passed (R138). -/
  | tick
  /-- A sequencer step; the micro-operation is the one `PHASE` selects (R181). -/
  | seq
  /-- A host command (R80). -/
  | command (c : Command)
  /-- The block's reset (R230). -/
  | reset
  deriving DecidableEq, Repr, Inhabited

end Sys2Proof
end

