-- ==== Sys2Proof/Config.lean ====
section
/-! DEFINITION. The implementation parameters of the block (00_scope.md R5) and the one free value: which
agent steps next when nothing says so. -/

namespace Sys2Proof

/-- The configuration, "fixed at build/start time" (R5). `CW` is an integer 1 to 32 (`Config.wf`).
`PWM_FREQ` is not here: no rule reads it (R5, D27). -/
structure Config where
  kp : Word
  ki : Word
  imin : Word
  imax : Word
  target : Word
  intervalMs : Word
  dutyMax : Word
  cw : Fin 33
  diagEn : Bool
  deriving DecidableEq, Repr

/-- "Configuration S" of 95_test_vectors.md: the configuration of `State.reset`.
DESIGN CHOICE (unsafe, entry 1): the spec gives `KP` to `INTERVAL_MS` no value; `DUTY_MAX`, `CW` and `DIAG_EN`
are its defaults (R5). -/
def Config.scenario : Config where
  kp := 0x00003333#32
  ki := 0x00001999#32
  imin := 0xFF9C0000#32
  imax := 0x00640000#32
  target := 0x00640000#32
  intervalMs := 100#32
  dutyMax := 65535#32
  cw := 32
  diagEn := true

/-- The environment: which agent step comes at moment `n` when none is scheduled. A FREE VALUE
(20_memory.md R65: steps "may interleave in any order"). DESIGN CHOICE (safe, entry 2). -/
opaque Config.environment : Nat → AgentStep

end Sys2Proof
end

