-- ==== Sys2Proof/WellFormed.lean ====
section
/-! DEFINITION. The checks on an operation and on a configuration that their types do not make. -/

namespace Sys2Proof

/-- The register number of `RDREG` is 0 to 13 (30_encoding.md R85(c)); nothing else of an operation can be
ill-formed. -/
def Instr.wf : Instr → Bool
  | .nop => true
  | .tofix _ => true
  | .fromfix _ => true
  | .mul _ _ => true
  | .clamp _ _ _ => true
  | .vel _ _ => true
  | .rdclr => true
  | .pistep _ _ => true
  | .apply _ => true
  | .cancel => true
  | .rdreg rn => decide (rn.toNat ≤ 13)
  | .uWait => true
  | .uSample => true
  | .uPi => true
  | .uApply => true
  | .uDiag => true

/-- `CW` is an integer 1 to 32 (00_scope.md R5); at most 32 holds by its type. -/
def Config.wf (c : Config) : Bool := decide (1 ≤ c.cw.val)

end Sys2Proof
end

