-- ==== Sys2Proof/Decode.lean ====
section
/-! DEFINITION. Decoding of the command word and of `PHASE`, and the encoder (30_encoding.md R81 to R87). -/

namespace Sys2Proof

/-- `op`, bits 3:0 of the command word (R81). -/
def opField (w : BitVec 8) : BitVec 4 := w.extractLsb' 0 4

/-- `rn`, bits 7:4 of the command word (R81). -/
def rnField (w : BitVec 8) : BitVec 4 := w.extractLsb' 4 4

/-- Why a word is no operation. -/
inductive Reject where
  /-- `op` is 11 to 15 (R85(a)). -/
  | reservedOp
  /-- `op` is 0 to 9 and `rn` is not 0 (R85(b)). -/
  | nonzeroRn
  /-- `RDREG` of register 14 or 15 (R85(c)). -/
  | reservedRegister
  /-- `PHASE` is 5, 6 or 7 (10_state.md R31). -/
  | reservedPhase
  deriving DecidableEq, Repr

/-- The opcode map (R83) with the operands of R84; `rn` matters to `op = 10` only. -/
def opcodeMap (op : Nat) (rn : BitVec 4) (a b c : Word) : Option Instr :=
  match op with
  | 0 => some .nop
  | 1 => some (.tofix a)
  | 2 => some (.fromfix a)
  | 3 => some (.mul a b)
  | 4 => some (.clamp a b c)
  | 5 => some (.vel a b)
  | 6 => some .rdclr
  | 7 => some (.pistep a b)
  | 8 => some (.apply a)
  | 9 => some .cancel
  | 10 => some (.rdreg rn)
  | _ => none

/-- Decoding of a host command, total and in the order of R86. -/
def decodeCommand (x : Command) : Except Reject Instr :=
  let op := opField x.cmd
  let rn := rnField x.cmd
  if 11 ≤ op.toNat then .error .reservedOp
  else if op.toNat ≠ 10 ∧ rn ≠ 0#4 then .error .nonzeroRn
  else if op.toNat = 10 ∧ 14 ≤ rn.toNat then .error .reservedRegister
  else match opcodeMap op.toNat rn x.a x.b x.c with
    | some i => .ok i
    | none => .error .reservedOp

/-- The micro-operation that `PHASE` selects (R87). -/
def decodePhase (p : BitVec 3) : Except Reject Instr :=
  match p.toNat with
  | 0 => .ok .uWait
  | 1 => .ok .uSample
  | 2 => .ok .uPi
  | 3 => .ok .uApply
  | 4 => .ok .uDiag
  | _ => .error .reservedPhase

/-- The decoder over both encodings. -/
def decode : Code → Except Reject Instr
  | .command c => decodeCommand c
  | .phase p => decodePhase p

/-- A format `O` word: `cmd = 0000 oooo` (R82). -/
def formatO (op : BitVec 4) : BitVec 8 := 0#4 ++ op

/-- A format `R` word: `cmd = rrrr 1010` (R82). -/
def formatR (rn : BitVec 4) : BitVec 8 := rn ++ 10#4

/-- The encoder; operands a command ignores "assemble to `0x00000000`" (R90). -/
def encode : Instr → Code
  | .nop => .command ⟨formatO 0, 0, 0, 0⟩
  | .tofix a => .command ⟨formatO 1, a, 0, 0⟩
  | .fromfix a => .command ⟨formatO 2, a, 0, 0⟩
  | .mul a b => .command ⟨formatO 3, a, b, 0⟩
  | .clamp a b c => .command ⟨formatO 4, a, b, c⟩
  | .vel a b => .command ⟨formatO 5, a, b, 0⟩
  | .rdclr => .command ⟨formatO 6, 0, 0, 0⟩
  | .pistep a b => .command ⟨formatO 7, a, b, 0⟩
  | .apply a => .command ⟨formatO 8, a, 0, 0⟩
  | .cancel => .command ⟨formatO 9, 0, 0, 0⟩
  | .rdreg rn => .command ⟨formatR rn, 0, 0, 0⟩
  | .uWait => .phase 0
  | .uSample => .phase 1
  | .uPi => .phase 2
  | .uApply => .phase 3
  | .uDiag => .phase 4

/-- One row of spec/opcode_table.json: how many bits its pattern has, its mask and its match. -/
structure TableRow where
  bits : Nat
  mask : Nat
  pattern : Nat
  deriving DecidableEq, Repr

/-- The row of spec/opcode_table.json an operation stands for. -/
def tableRow : Instr → TableRow
  | .nop => ⟨8, 0xFF, 0x00⟩
  | .tofix _ => ⟨8, 0xFF, 0x01⟩
  | .fromfix _ => ⟨8, 0xFF, 0x02⟩
  | .mul _ _ => ⟨8, 0xFF, 0x03⟩
  | .clamp _ _ _ => ⟨8, 0xFF, 0x04⟩
  | .vel _ _ => ⟨8, 0xFF, 0x05⟩
  | .rdclr => ⟨8, 0xFF, 0x06⟩
  | .pistep _ _ => ⟨8, 0xFF, 0x07⟩
  | .apply _ => ⟨8, 0xFF, 0x08⟩
  | .cancel => ⟨8, 0xFF, 0x09⟩
  | .rdreg _ => ⟨8, 0x0F, 0x0A⟩
  | .uWait => ⟨3, 0x7, 0x0⟩
  | .uSample => ⟨3, 0x7, 0x1⟩
  | .uPi => ⟨3, 0x7, 0x2⟩
  | .uApply => ⟨3, 0x7, 0x3⟩
  | .uDiag => ⟨3, 0x7, 0x4⟩

/-- The bits of a code that the table's patterns speak of: the command word, or `PHASE`. -/
def Code.tableBits : Code → Nat
  | .command c => c.cmd.toNat
  | .phase p => p.toNat

/-- A command tuple read from one number: `cmd` in bits 7:0, then `A`, `B`, `C`, 32 bits each.
DESIGN CHOICE (safe, entry 8): the spec lays the tuple out in no order. -/
def commandOfNat (w : Nat) : Command where
  cmd := BitVec.ofNat 8 w
  a := BitVec.ofNat 32 (w / 2 ^ 8)
  b := BitVec.ofNat 32 (w / 2 ^ 40)
  c := BitVec.ofNat 32 (w / 2 ^ 72)

/-- The code a table word stands for: a pattern of at most 3 bits is a `PHASE` (format `P`), any other is a
command (entry 8). The two code spaces overlap as numbers (30_encoding.md R87), so the width tells them apart. -/
def codeOfTableWord (nbits w : Nat) : Code :=
  if nbits ≤ 3 then .phase (BitVec.ofNat 3 w) else .command (commandOfNat w)

/-- The operation the decoder reads from a table word. -/
def decodeTableWord (nbits w : Nat) : Option Instr :=
  match decode (codeOfTableWord nbits w) with
  | .ok i => some i
  | .error _ => none

end Sys2Proof
end

