-- ==== Sys2Proof/Machine/Numeric.lean ====
section
/-! DEFINITION. The pure functions of the five units, on exact integers (00_scope.md R10;
40_fixed_point_core.md R110, R112). -/

namespace Sys2Proof.Machine

/-- `floor_div(n, d)`, used with `d > 0` only, where Lean's `/` rounds toward negative infinity (R10). -/
def floorDiv (n d : Int) : Int := n / d

/-- `asr16(n) = floor_div(n, 65536)` (R10). -/
def asr16 (n : Int) : Int := floorDiv n 65536

/-- Whether an integer is the signed value of a word: `[-2^31, 2^31 - 1]` (R8, R9). -/
def fitsWord (z : Int) : Bool := decide (-2 ^ 31 ≤ z) && decide (z ≤ 2 ^ 31 - 1)

/-- `word32(z)`, used with `fitsWord z` only (R8). -/
def word32 (z : Int) : Word := BitVec.ofInt 32 z

/-- `zext32` of an unsigned value below `2^32` (R8). -/
def zext32 (n : Nat) : Word := BitVec.ofNat 32 n

/-- `mulq(a, b)` (R103): rescale after the exact product, truncating toward negative infinity. -/
def mulq (a b : Int) : Int := asr16 (a * b)

/-- `clamp(x, lo, hi)`, used with `lo <= hi` only (R104). -/
def clamp (x lo hi : Int) : Int := if x < lo then lo else if x > hi then hi else x

/-- `acc_sat(acc, term, lo, hi)`: the exact sum, then the clamp (R109). -/
def accSat (acc term lo hi : Int) : Int := clamp (acc + term) lo hi

/-- `to_fixed_q` of the rational `num / den`, `den > 0` (R102): the spec's reference function, no operation. -/
def toFixedQ (num : Int) (den : Nat) : Int := floorDiv (num * 65536) den

/-- `to_fixed_q(100)`, 100 percent (R154). -/
def fullScale : Int := 6553600

/-- `velq(count, interval)`, used with `interval > 0` only (42_velocity_sampler.md R136). -/
def velq (count interval : Nat) : Nat := count * 65536000 / interval

/-- The velocity fits a FixedPoint word (R136). -/
def velFits (v : Nat) : Bool := decide (v ≤ 2 ^ 31 - 1)

/-- `pi_step(integ, target, measured)`, used with `imin <= imax` only (43_pi_controller.md R150 to R154):
the new integral and the output. -/
def piStep (c : Config) (integ target measured : Int) : Int × Int :=
  let e := target - measured
  let p := mulq c.kp.toInt e
  let term := mulq c.ki.toInt e
  let integ' := accSat integ term c.imin.toInt c.imax.toInt
  let o := p + integ'
  (integ', clamp o 0 fullScale)

/-- `dutyq(p)` (44_actuation_driver.md R171): the defensive re-clamp, then the linear scale; both factors are
non-negative. -/
def dutyq (c : Config) (p : Int) : Nat := (clamp p 0 fullScale).toNat * c.dutyMax.toNat / 6553600

/-- What one cycle of the loop leaves in `MEAS`, `INTEG`, `OUT` and `DUTY`, as exact values. -/
structure CycleValues where
  meas : Nat
  integ : Int
  out : Int
  duty : Nat
  deriving DecidableEq, Repr

/-- One cycle as a function of the integral before it and the count it reads (45_control_loop.md R192). -/
def cycle (c : Config) (integ : Int) (count : Nat) : CycleValues :=
  let m := velq count c.intervalMs.toNat
  let r := piStep c integ c.target.toInt m
  ⟨m, r.1, r.2, dutyq c r.2⟩

/-- `2^CW - 1`, the largest count (10_state.md R23). -/
def cntMax (c : Config) : Nat := 2 ^ c.cw.val - 1

/-- The integral's bounds are in order (00_scope.md R6). -/
def boundsOrdered (c : Config) : Bool := decide (c.imin.toInt ≤ c.imax.toInt)

/-- `cfg_valid` (00_scope.md R6; 70_reset_and_hazards.md R231). -/
def cfgValid (c : Config) : Bool := decide (c.intervalMs ≠ 0#32) && boundsOrdered c

end Sys2Proof.Machine
end

