-- ==== Sys2Proof/Machine/State.lean ====
section
/-! DEFINITION. The state of the block (10_state.md R20), the reasons a step stops, and reset. -/

namespace Sys2Proof.Machine

/-- Why a step stops with a fault. No rule of the spec lets a run reach any of these (10_state.md R39), so all
four are safe. -/
inductive Fault where
  /-- Raised by any agent step but `RESET` when `PHASE` is 5, 6 or 7: "a model that finds `PHASE` here has been
  mis-built and must fault" (R31). DEDUCED, safe (entry 4). -/
  | reservedPhase
  /-- Raised by `uSAMPLE` when `INTERVAL_MS = 0`: `velq` is not defined there (R136). DEDUCED, safe (entry 5). -/
  | zeroInterval
  /-- Raised by `uPI` when the integral's bounds are out of order: `clamp` is not defined there (R104).
  DEDUCED, safe (entry 5). -/
  | boundsOutOfOrder
  /-- Raised by `uWAIT` when `TMR = 0`: `TMR` "never decrements below zero" (R110). DEDUCED, safe (entry 5). -/
  | timerExhausted
  deriving DecidableEq, Repr

/-- Why a step has no meaning. No operation of this model is refused. -/
inductive Refusal where
  /-- An operation without a meaning, by its mnemonic in spec/opcode_table.json; raised by no arm. Safe. -/
  | notModelled (mnemonic : String)
  deriving DecidableEq, Repr

/-- The state of the block: the registers of R20, the diagnostic trace of R38, the configuration (entry 1), and
the model's own schedule of agent steps (entry 2). -/
structure State where
  /-- The configuration; no step writes it (R36). -/
  cfg : Config
  /-- `CNT`, the edges since the last read-and-clear (R23), `CW` bits held in 32 (entry 7). -/
  cnt : Word
  /-- `OVF`, the counter saturated since the last read-and-clear (R24). -/
  ovf : Bool
  /-- `INTEG`, the integral accumulator, Q16.16 (R25). -/
  integ : Word
  /-- `MEAS`, the last measured velocity, Q16.16 (R26). -/
  meas : Word
  /-- `OUT`, the last controller output, Q16.16 percent (R27). -/
  out : Word
  /-- `DUTY`, the duty-cycle register value (R28). -/
  duty : Word
  /-- `TMR`, milliseconds left in the current wait (R29). -/
  tmr : Word
  /-- `RUN`, running or terminated (R30). -/
  run : Bool
  /-- `PHASE`, which part of the cycle the loop is in (R31). -/
  phase : BitVec 3
  /-- `STOP_REQ`, a cancellation has been requested (R32). -/
  stopReq : Bool
  /-- `FAULT[3:0]`, the sticky bits; bits 31:4 read as 0 (R33). -/
  fault : BitVec 4
  /-- `RC`, the response code of the last command (R35). -/
  rc : BitVec 3
  /-- `RES`, the first result word of the last successful command (R35). -/
  res : Word
  /-- `RES2`, the second result word (R35). -/
  res2 : Word
  /-- The diagnostic trace, oldest record first (R38). -/
  diag : List (Word × Word)
  /-- The agent steps still to come, next first. The model's own (entry 2). -/
  inputs : List AgentStep
  /-- The moment at which the environment is asked next. The model's own (entry 2). -/
  envTime : Nat
  deriving DecidableEq, Repr

/-- The state after `RESET` under configuration `c` (10_state.md R40; 70_reset_and_hazards.md R230), with nothing
scheduled. -/
def State.resetWith (c : Config) : State where
  cfg := c
  cnt := 0#32
  ovf := false
  integ := 0#32
  meas := 0#32
  out := 0#32
  duty := 0#32
  tmr := c.intervalMs
  run := cfgValid c
  phase := 0#3
  stopReq := false
  fault := if cfgValid c then 0#4 else 1#4
  rc := 0#3
  res := 0#32
  res2 := 0#32
  diag := []
  inputs := []
  envTime := 0

/-- The machine right after reset, in configuration S (entry 1). -/
def State.reset : State := State.resetWith Config.scenario

end Sys2Proof.Machine
end

