-- ==== Sys2Proof/Machine/Flags.lean ====
section
/-! DEFINITION. The sticky `FAULT` bits and the `STATUS` view (10_state.md R33, R34). -/

namespace Sys2Proof.Machine

/-- The bits of `FAULT` (R33). -/
inductive FaultBit where
  /-- Bit 0: the configuration is invalid (60_exceptions.md R204). -/
  | cfg
  /-- Bit 1: the velocity did not fit (R206). -/
  | num
  /-- Bit 2: the pulse counter saturated during a window (R205). -/
  | pulseOvf
  /-- Bit 3: a command was refused (R207). -/
  | cmd
  deriving DecidableEq, Repr

/-- A bit's place in `FAULT` (R33). -/
def faultMask : FaultBit → BitVec 4
  | .cfg => 0b0001#4
  | .num => 0b0010#4
  | .pulseOvf => 0b0100#4
  | .cmd => 0b1000#4

/-- `FAULT.X <- 1`: sets one sticky bit (00_scope.md R11). -/
def State.raise (b : FaultBit) (s : State) : State := { s with fault := s.fault ||| faultMask b }

/-- Whether a bit of `FAULT` is set. -/
def State.faultBit (b : FaultBit) (s : State) : Bool := decide (s.fault &&& faultMask b ≠ 0#4)

/-- `FAULT` as register 1 reads it: bits 31:4 are 0 (R33). -/
def State.faultWord (s : State) : Word := s.fault.setWidth 32

/-- `STATUS = zext32({DIAG_EN, STOP_REQ, PHASE[2:0], RUN})` (R34). -/
def State.statusWord (s : State) : Word :=
  (BitVec.ofBool s.cfg.diagEn ++ BitVec.ofBool s.stopReq ++ s.phase ++ BitVec.ofBool s.run).setWidth 32

end Sys2Proof.Machine
end

