-- ==== Sys2Proof/Machine/Operands.lean ====
section
/-! DEFINITION. The register-select space that `RDREG` reads (10_state.md R37; 20_memory.md R61). -/

namespace Sys2Proof.Machine

/-- The names of the register numbers (R37). -/
inductive RegName where
  | status | fault | kp | ki | imin | imax | target | intervalMs | dutyMax | integ | meas | out | duty | tmr
  deriving DecidableEq, Repr

/-- The register a number names; 14 and 15 are reserved (R37). -/
def regOfNumber (n : Nat) : Option RegName :=
  match n with
  | 0 => some .status
  | 1 => some .fault
  | 2 => some .kp
  | 3 => some .ki
  | 4 => some .imin
  | 5 => some .imax
  | 6 => some .target
  | 7 => some .intervalMs
  | 8 => some .dutyMax
  | 9 => some .integ
  | 10 => some .meas
  | 11 => some .out
  | 12 => some .duty
  | 13 => some .tmr
  | _ => none

/-- The value a register reads as, 32 bits (R37). -/
def State.readReg (s : State) : RegName → Word
  | .status => s.statusWord
  | .fault => s.faultWord
  | .kp => s.cfg.kp
  | .ki => s.cfg.ki
  | .imin => s.cfg.imin
  | .imax => s.cfg.imax
  | .target => s.cfg.target
  | .intervalMs => s.cfg.intervalMs
  | .dutyMax => s.cfg.dutyMax
  | .integ => s.integ
  | .meas => s.meas
  | .out => s.out
  | .duty => s.duty
  | .tmr => s.tmr

/-- `regval(rn)` of 45_control_loop.md R188; nothing for the reserved numbers. -/
def State.regval (s : State) (rn : BitVec 4) : Option Word := (regOfNumber rn.toNat).map s.readReg

/-- The fraction `x[15:0]` of a FixedPoint word, zero-extended (40_fixed_point_core.md R106). -/
def fractionOf (x : Word) : Word := (x.extractLsb' 0 16).setWidth 32

end Sys2Proof.Machine
end

