-- ==== Sys2Proof/Machine/Ops.lean ====
section
/-! DEFINITION. The named operations over the registers. The block takes no exception in a processor's sense and
returns from none (60_exceptions.md R210, R211): what stands in its place is the one shared `State.refuse` and
the sticky bits that `State.raise` sets. -/

namespace Sys2Proof.Machine

/-- What a step of the block answers. -/
abbrev Result := Host.Outcome State Fault Refusal

/-- The phases of the loop (10_state.md R31). -/
abbrev phWait : BitVec 3 := 0#3
/-- `SAMPLE` (R31). -/
abbrev phSample : BitVec 3 := 1#3
/-- `PI` (R31). -/
abbrev phPi : BitVec 3 := 2#3
/-- `APPLY` (R31). -/
abbrev phApply : BitVec 3 := 3#3
/-- `DIAG` (R31). -/
abbrev phDiag : BitVec 3 := 4#3

/-- The response codes (60_exceptions.md R200); 6 and 7 are never produced. -/
inductive RespCode where
  | ok | errIllegal | errBusy | errRange | errOrder | errDiv0
  deriving DecidableEq, Repr

/-- The value of a response code in `RC` (R200). -/
def rcWord : RespCode → BitVec 3
  | .ok => 0#3
  | .errIllegal => 1#3
  | .errBusy => 2#3
  | .errRange => 3#3
  | .errOrder => 4#3
  | .errDiv0 => 5#3

/-- `refuse(code)`, for a code other than `OK`: `RC` and `FAULT.CMD`, and no other change (60_exceptions.md
R202). -/
def State.refuse (e : RespCode) (s : State) : State := { s with rc := rcWord e }.raise .cmd

/-- `respond(rc, r, r2)` (30_encoding.md R88): `RES` and `RES2` are written with `OK` only. -/
def State.respond (rc : RespCode) (r r2 : Word) (s : State) : State :=
  match rc with
  | .ok => { s with rc := rcWord .ok, res := r, res2 := r2 }
  | e => s.refuse e

/-- The effect of `read_and_clear()` on the registers (41_pulse_accumulator.md R123); what it returns is
`(CNT, OVF)` from before. -/
def State.clearCount (s : State) : State := { s with cnt := 0#32, ovf := false }

/-- `EDGE` (R122). `CNT` never exceeds `2^CW - 1` (R23), so `>=` is the rule's `=`; it keeps the counter from
ever wrapping (R121, entry 7). -/
def State.countEdge (s : State) : State :=
  if cntMax s.cfg ≤ s.cnt.toNat then { s with ovf := true } else { s with cnt := s.cnt + 1#32 }

/-- `PHASE <- p` (00_scope.md R11). -/
def State.toPhase (p : BitVec 3) (s : State) : State := { s with phase := p }

/-- `RUN <- 0; PHASE <- WAIT`: the loop terminates (45_control_loop.md R180). -/
def State.terminate (s : State) : State := { s with run := false, phase := phWait }

/-- `INTEG <- i; OUT <- o` (43_pi_controller.md R156; 45_control_loop.md R184). -/
def State.setController (i o : Word) (s : State) : State := { s with integ := i, out := o }

/-- `MEAS <- v` (R183). -/
def State.setMeas (v : Word) (s : State) : State := { s with meas := v }

/-- `DUTY <- d`, the block's only actuation (10_state.md R28). -/
def State.setDuty (d : Word) (s : State) : State := { s with duty := d }

/-- `TMR <- t` (R29). -/
def State.setTmr (t : Word) (s : State) : State := { s with tmr := t }

/-- `STOP_REQ <- 1` (R32). -/
def State.requestStop (s : State) : State := { s with stopReq := true }

/-- `RUN <- 0` (R30). -/
def State.stop (s : State) : State := { s with run := false }

/-- `emit_diag(MEAS, OUT)`: one record appended (00_scope.md R11; 10_state.md R38). -/
def State.emitDiag (s : State) : State := { s with diag := s.diag ++ [(s.meas, s.out)] }

/-- `RESET` (70_reset_and_hazards.md R230): the configuration is not written, and the steps still to come are the
environment's and not the block's (entry 10). -/
def State.doReset (s : State) : State :=
  { State.resetWith s.cfg with inputs := s.inputs, envTime := s.envTime }

/-- The sequencer has a step exactly when `RUN = 1` and `PHASE` is `SAMPLE` to `DIAG` (45_control_loop.md R181). -/
def State.seqEnabled (s : State) : Bool := s.run && decide (1 ≤ s.phase.toNat) && decide (s.phase.toNat ≤ 4)

/-- A `TICK` has an effect exactly when `RUN = 1` and `PHASE = WAIT` (42_velocity_sampler.md R138). -/
def State.waiting (s : State) : Bool := s.run && decide (s.phase = phWait)

/-- `CNT` and `OVF` as one read-and-clear returns them (R123). -/
def State.count (s : State) : Word × Bool := (s.cnt, s.ovf)

/-- The controller's new `(INTEG, OUT)` words for a target and a measured value (43_pi_controller.md R150, R156). -/
def State.piWords (s : State) (target measured : Word) : Word × Word :=
  let r := piStep s.cfg s.integ.toInt target.toInt measured.toInt
  (word32 r.1, word32 r.2)

/-- The duty word for a percentage (44_actuation_driver.md R171). -/
def State.dutyWord (s : State) (p : Word) : Word := zext32 (dutyq s.cfg p.toInt)

end Sys2Proof.Machine
end

