-- ==== Sys2Proof/Machine/Actuation.lean ====
section
/-! DEFINITION. The command of the actuation driver: `APPLY` (44_actuation_driver.md R172). -/

namespace Sys2Proof.Machine

/-- `APPLY` (R172): refused while the loop runs; out-of-range percentages are clamped, never rejected. -/
def execApply (a : Word) (s : State) : Result :=
  .next (if s.run then s.refuse .errBusy else (s.setDuty (s.dutyWord a)).respond .ok (s.dutyWord a) 0#32)

end Sys2Proof.Machine
end

