-- ==== Sys2Proof/Machine/Controller.lean ====
section
/-! DEFINITION. The command of the PI controller: `PISTEP` (43_pi_controller.md R156). -/

namespace Sys2Proof.Machine

/-- `PISTEP` (R156): the checks in the order `ERR_BUSY`, `ERR_ORDER` (60_exceptions.md R203). -/
def execPistep (a b : Word) (s : State) : Result :=
  .next (if s.run then s.refuse .errBusy
    else if boundsOrdered s.cfg then
      (s.setController (s.piWords a b).1 (s.piWords a b).2).respond .ok (s.piWords a b).2 (s.piWords a b).1
    else s.refuse .errOrder)

end Sys2Proof.Machine
end

