-- ==== Sys2Proof/Machine/FixedPoint.lean ====
section
/-! DEFINITION. The commands of the numeric core: `TOFIX`, `FROMFIX`, `MUL`, `CLAMP` (40_fixed_point_core.md
R105 to R108). They read no state and write the response latches only (R100). -/

namespace Sys2Proof.Machine

/-- `TOFIX` (R105). -/
def execTofix (a : Word) (s : State) : Result :=
  .next (if a.toInt < -32768 ∨ a.toInt > 32767 then s.refuse .errRange
    else s.respond .ok (word32 (a.toInt * 65536)) 0#32)

/-- `FROMFIX` (R106). -/
def execFromfix (a : Word) (s : State) : Result :=
  .next (s.respond .ok (word32 (asr16 a.toInt)) (fractionOf a))

/-- `MUL` (R107): the rescaled product must fit a FixedPoint word. -/
def execMul (a b : Word) (s : State) : Result :=
  .next (if fitsWord (mulq a.toInt b.toInt) then s.respond .ok (word32 (mulq a.toInt b.toInt)) 0#32
    else s.refuse .errRange)

/-- `CLAMP` (R108). -/
def execClamp (a b c : Word) (s : State) : Result :=
  .next (if b.toInt > c.toInt then s.refuse .errOrder
    else s.respond .ok (word32 (clamp a.toInt b.toInt c.toInt)) 0#32)

end Sys2Proof.Machine
end

