-- ==== Sys2Proof/Machine/Observe.lean ====
section
/-! DEFINITION. The commands of the control loop that the host may give in both loop states: `NOP`, `CANCEL`,
`RDREG` (45_control_loop.md R187 to R189). -/

namespace Sys2Proof.Machine

/-- `NOP` (R189). -/
def execNop (s : State) : Result := .next (s.respond .ok 0#32 0#32)

/-- `CANCEL` (R187): in `WAIT` the loop stops at once and `TMR` keeps its value; otherwise `uDIAG` stops it. -/
def execCancel (s : State) : Result :=
  .next ((if s.waiting then s.requestStop.stop else s.requestStop).respond .ok 0#32 0#32)

/-- `RDREG` (R188): the reserved numbers 14 and 15 are refused. -/
def execRdreg (rn : BitVec 4) (s : State) : Result :=
  .next (match s.regval rn with
    | some v => s.respond .ok v 0#32
    | none => s.refuse .errIllegal)

end Sys2Proof.Machine
end

