-- ==== Sys2Proof/Machine/Pulse.lean ====
section
/-! DEFINITION. The command of the pulse accumulator: `RDCLR` (41_pulse_accumulator.md R124). -/

namespace Sys2Proof.Machine

/-- `RDCLR` (R124): refused while the loop runs. -/
def execRdclr (s : State) : Result :=
  .next (if s.run then s.refuse .errBusy
    else s.clearCount.respond .ok s.count.1 ((BitVec.ofBool s.count.2).setWidth 32))

end Sys2Proof.Machine
end

