-- ==== Sys2Proof/Machine/Sequencer.lean ====
section
/-! DEFINITION. The micro-operations of the loop: `uWAIT`, `uSAMPLE`, `uPI`, `uAPPLY`, `uDIAG`
(45_control_loop.md R182 to R186). -/

namespace Sys2Proof.Machine

/-- `uWAIT` (R182): the countdown that the `TICK` event performs (30_encoding.md R87; 42_velocity_sampler.md
R138); when it is performed is `State.waiting`. DEDUCED (entry 6). -/
def execUWait (s : State) : Result :=
  if s.tmr = 0#32 then .fault .timerExhausted
  else if s.tmr - 1#32 = 0#32 then .next ((s.setTmr (s.tmr - 1#32)).toPhase phSample)
  else .next (s.setTmr (s.tmr - 1#32))

/-- `uSAMPLE` (R183): read and clear, flag a saturated count, convert; a velocity that does not fit sets
`FAULT.NUM` and terminates the loop with `MEAS` unchanged. -/
def execUSample (s : State) : Result :=
  if s.cfg.intervalMs = 0#32 then .fault .zeroInterval
  else
    let v := velq s.count.1.toNat s.cfg.intervalMs.toNat
    let s1 := if s.count.2 then s.clearCount.raise .pulseOvf else s.clearCount
    .next (if velFits v then (s1.setMeas (zext32 v)).toPhase phPi else (s1.raise .num).terminate)

/-- `uPI` (R184). -/
def execUPi (s : State) : Result :=
  if boundsOrdered s.cfg then
    .next ((s.setController (s.piWords s.cfg.target s.meas).1 (s.piWords s.cfg.target s.meas).2).toPhase phApply)
  else .fault .boundsOutOfOrder

/-- `uAPPLY` (R185). -/
def execUApply (s : State) : Result := .next ((s.setDuty (s.dutyWord s.out)).toPhase phDiag)

/-- `uDIAG` (R186): emit, reload the timer, close the cycle, and stop if a cancellation is pending. -/
def execUDiag (s : State) : Result :=
  let s1 := if s.cfg.diagEn then s.emitDiag else s
  let s2 := (s1.setTmr s1.cfg.intervalMs).toPhase phWait
  .next (if s2.stopReq then s2.stop else s2)

end Sys2Proof.Machine
end

