-- ==== Sys2Proof/Machine/Velocity.lean ====
section
/-! DEFINITION. The command of the velocity sampler: `VEL` (42_velocity_sampler.md R137). -/

namespace Sys2Proof.Machine

/-- `VEL` (R137): `ERR_DIV0` is checked before `ERR_RANGE` (60_exceptions.md R203). -/
def execVel (a b : Word) (s : State) : Result :=
  .next (if b.toNat = 0 then s.refuse .errDiv0
    else if velFits (velq a.toNat b.toNat) then s.respond .ok (zext32 (velq a.toNat b.toNat)) 0#32
    else s.refuse .errRange)

end Sys2Proof.Machine
end

