-- ==== Sys2Proof/Machine/Dispatch.lean ====
section
/-! DEFINITION. The meaning of every operation: one arm per constructor of Instr. -/

namespace Sys2Proof.Machine

def exec (i : Instr) (s : State) : Host.Outcome State Fault Refusal :=
  match i with
  | .nop => Sys2Proof.Machine.execNop s
  | .tofix a => Sys2Proof.Machine.execTofix a s
  | .fromfix a => Sys2Proof.Machine.execFromfix a s
  | .mul a b => Sys2Proof.Machine.execMul a b s
  | .clamp a b c => Sys2Proof.Machine.execClamp a b c s
  | .vel a b => Sys2Proof.Machine.execVel a b s
  | .rdclr => Sys2Proof.Machine.execRdclr s
  | .pistep a b => Sys2Proof.Machine.execPistep a b s
  | .apply a => Sys2Proof.Machine.execApply a s
  | .cancel => Sys2Proof.Machine.execCancel s
  | .rdreg rn => Sys2Proof.Machine.execRdreg rn s
  | .uWait => Sys2Proof.Machine.execUWait s
  | .uSample => Sys2Proof.Machine.execUSample s
  | .uPi => Sys2Proof.Machine.execUPi s
  | .uApply => Sys2Proof.Machine.execUApply s
  | .uDiag => Sys2Proof.Machine.execUDiag s

end Sys2Proof.Machine
end

