-- ==== Sys2Proof/Machine/Agents.lean ====
section
/-! DEFINITION. What one step of one agent does (00_scope.md R12; 20_memory.md R65), where the next agent step
comes from, and how a table word is placed there. -/

namespace Sys2Proof.Machine

/-- The next agent step, and the state with it taken: the head of the schedule, or the environment's free choice
where nothing is scheduled (entry 2). -/
def State.nextInput (s : State) : AgentStep × State :=
  match s.inputs with
  | a :: rest => (a, { s with inputs := rest })
  | [] => (Config.environment s.envTime, { s with envTime := s.envTime + 1 })

/-- What an agent step comes to in a state. -/
inductive Task where
  /-- An operation is performed. -/
  | run (i : Instr)
  /-- An edge is counted. -/
  | edge
  /-- The block is reset. -/
  | reset
  /-- A command word is illegal (30_encoding.md R85). -/
  | illegal
  /-- Nothing: a `TICK` without effect (R138), or a `SEQ` that is not enabled (R181, entry 3). -/
  | idle
  deriving DecidableEq, Repr

/-- The task of an agent step: a command is decoded (R86), a sequencer step is the micro-operation that `PHASE`
selects (R87), and a tick performs `uWAIT` (R87). -/
def select (a : AgentStep) (s : State) : Task :=
  match a with
  | .edge => .edge
  | .reset => .reset
  | .tick => if s.waiting then .run .uWait else .idle
  | .seq =>
    if s.seqEnabled then
      match decodePhase s.phase with
      | .ok i => .run i
      | .error _ => .idle
    else .idle
  | .command c =>
    match decodeCommand c with
    | .ok i => .run i
    | .error _ => .illegal

/-- Performs a task. -/
def runTask (t : Task) (s : State) : Result :=
  match t with
  | .run i => exec i s
  | .edge => .next s.countEdge
  | .reset => .next s.doReset
  | .illegal => .next (s.refuse .errIllegal)
  | .idle => .next s

/-- One step of one agent. A reserved `PHASE` stops every agent but `RESET` (10_state.md R31, entry 4). -/
def perform (a : AgentStep) (s : State) : Result :=
  if 4 < s.phase.toNat ∧ a ≠ .reset then .fault .reservedPhase else runTask (select a s) s

/-- A code placed so that the very next step runs it (entry 8): a command is the next input; a value of `PHASE`
is loaded with `RUN = 1`, and the next input is the agent that performs it, `TICK` for `uWAIT` and `SEQ` for the
others (30_encoding.md R87). -/
def State.placeCode (s : State) : Code → State
  | .command c => { s with inputs := .command c :: s.inputs }
  | .phase p =>
    { s with run := true, phase := p, inputs := (if p = phWait then AgentStep.tick else AgentStep.seq) :: s.inputs }

end Sys2Proof.Machine
end

