-- ==== Sys2Proof/Machine/Step.lean ====
section
/-! DEFINITION. One step of the machine, and the host's placing of a table word. -/

namespace Sys2Proof.Machine

/-- One step: the next agent's (20_memory.md R65). -/
def step (s : State) : Host.Outcome State Fault Refusal :=
  perform s.nextInput.1 s.nextInput.2

/-- `s` with a table word placed where the next step takes it (entry 8). -/
def State.withFetchWord (s : State) (nbits w : Nat) : State := s.placeCode (codeOfTableWord nbits w)

end Sys2Proof.Machine
end

