-- ==== Sys2Proof/Machine/Script.lean ====
section
/-! DEFINITION. The assembler of command scripts (30_encoding.md R90, R91). A text is a list of characters; it
carries no hardware meaning of its own (92_eei_decisions.md D25): it stands for agent steps. -/

namespace Sys2Proof.Machine

/-- The value of a digit in base 16. -/
def digitValue (ch : Char) : Option Nat :=
  let n := ch.toNat
  if 48 ≤ n ∧ n ≤ 57 then some (n - 48)
  else if 65 ≤ n ∧ n ≤ 70 then some (n - 55)
  else if 97 ≤ n ∧ n ≤ 102 then some (n - 87)
  else none

/-- The digits `ds` read after the value `acc`, in a base; nothing if one is no digit of it. -/
def readDigits (base acc : Nat) : List Char → Option Nat
  | [] => some acc
  | ch :: rest =>
    match digitValue ch with
    | some d => if d < base then readDigits base (acc * base + d) rest else none
    | none => none

/-- A number of one or more digits. -/
def readNumber (base : Nat) (ds : List Char) : Option Nat :=
  match ds with
  | [] => none
  | _ => readDigits base 0 ds

/-- The optional sign of a decimal: its factor, and what follows. -/
def readSign : List Char → Int × List Char
  | '-' :: rest => (-1, rest)
  | l => (1, l)

/-- A word for an integer that the signed value of a word can be. -/
def wordOfInt (z : Int) : Option Word := if fitsWord z then some (word32 z) else none

/-- The inside of a `q(<decimal>)` literal: `word32(floor(<decimal> * 65536))` (R90, R102). -/
def readQ (l : List Char) : Option Word :=
  let (sign, body) := readSign l
  let whole := body.takeWhile (· ≠ '.')
  match body.dropWhile (· ≠ '.') with
  | [] => (readNumber 10 whole).bind fun n => wordOfInt (toFixedQ (sign * n) 1)
  | _ :: frac =>
    (readNumber 10 whole).bind fun n => (readNumber 10 frac).bind fun f =>
      wordOfInt (toFixedQ (sign * (n * 10 ^ frac.length + f : Nat)) (10 ^ frac.length))

/-- One operand: a 32-bit literal in hexadecimal, in signed decimal, or as a Q16.16 literal (R90). -/
def readOperand (l : List Char) : Option Word :=
  match l with
  | '0' :: 'x' :: ds => (readNumber 16 ds).bind fun n => if n < 2 ^ 32 then some (zext32 n) else none
  | 'q' :: '(' :: rest =>
    match rest.reverse with
    | ')' :: inside => readQ inside.reverse
    | _ => none
  | _ =>
    let (sign, body) := readSign l
    (readNumber 10 body).bind fun n => wordOfInt (sign * n)

/-- The names of the register numbers (10_state.md R37). -/
def registerNames : List (List Char) :=
  ["STATUS".toList, "FAULT".toList, "KP".toList, "KI".toList, "IMIN".toList, "IMAX".toList,
   "TARGET".toList, "INTERVAL_MS".toList, "DUTY_MAX".toList,
   "INTEG".toList, "MEAS".toList, "OUT".toList, "DUTY".toList, "TMR".toList]

/-- A register number of four bits, or a register name (R90). -/
def readRegister (l : List Char) : Option (BitVec 4) :=
  match registerNames.findIdx? (· = l) with
  | some n => some (BitVec.ofNat 4 n)
  | none => (readNumber 10 l).bind fun n => if n < 16 then some (BitVec.ofNat 4 n) else none

/-- `RDREG rn`. -/
def asmRdreg (rn : BitVec 4) : Command := ⟨formatR rn, 0, 0, 0⟩

/-- The pseudo-instruction `RDSTATUS` (R91). -/
def asmRdstatus : Command := asmRdreg 0

/-- The pseudo-instruction `RDFAULT` (R91). -/
def asmRdfault : Command := asmRdreg 1

/-- The pseudo-instruction `SATPCT x` (R91). -/
def asmSatpct (x : Word) : Command := ⟨formatO 4, x, 0x00000000#32, 0x00640000#32⟩

/-- The format `O` commands: their names, and how many operands each reads (30_encoding.md R83, R84). -/
def formatONames : List (List Char × Nat) :=
  [("NOP".toList, 0), ("TOFIX".toList, 1), ("FROMFIX".toList, 1), ("MUL".toList, 2),
   ("CLAMP".toList, 3), ("VEL".toList, 2), ("RDCLR".toList, 0), ("PISTEP".toList, 2),
   ("APPLY".toList, 1), ("CANCEL".toList, 0)]

/-- The command a mnemonic and its operand words make; operands it ignores are 0 (R90). -/
def assembleCommand (name : List Char) (operands : List (List Char)) : Option Command :=
  if name = "RDREG".toList then
    match operands with
    | [r] => (readRegister r).map asmRdreg
    | _ => none
  else if name = "RDSTATUS".toList then
    if operands = [] then some asmRdstatus else none
  else if name = "RDFAULT".toList then
    if operands = [] then some asmRdfault else none
  else if name = "SATPCT".toList then
    match operands with
    | [x] => (readOperand x).map asmSatpct
    | _ => none
  else
    match formatONames.findIdx? (fun row => row.1 = name ∧ row.2 = operands.length) with
    | none => none
    | some op => (operands.mapM readOperand).map fun ws =>
        ⟨formatO (BitVec.ofNat 4 op), ws.getD 0 0, ws.getD 1 0, ws.getD 2 0⟩

/-- A character that separates. -/
def isBlank (ch : Char) : Bool := decide (ch = ' ') || decide (ch = '\t')

/-- The text without the blanks at its two ends. -/
def trimmed (l : List Char) : List Char := ((l.dropWhile isBlank).reverse.dropWhile isBlank).reverse

/-- The text cut at its commas. -/
def cutAtCommas : List Char → List (List Char)
  | [] => [[]]
  | ',' :: rest => [] :: cutAtCommas rest
  | ch :: rest =>
    match cutAtCommas rest with
    | first :: more => (ch :: first) :: more
    | [] => [[ch]]

/-- How often an event line says its event: once, or the `n` of `* n` (R90). -/
def readTimes (l : List Char) : Option Nat :=
  match l with
  | [] => some 1
  | '*' :: n => readNumber 10 (trimmed n)
  | _ => none

/-- One line of a script, as the agent steps it stands for (R90). -/
def assembleLine (line : List Char) : Option (List AgentStep) :=
  let text := trimmed (line.takeWhile (· ≠ ';'))
  let name := text.takeWhile (fun ch => !isBlank ch && decide (ch ≠ '*'))
  let rest := trimmed (text.dropWhile (fun ch => !isBlank ch && decide (ch ≠ '*')))
  if text = [] then some []
  else if name = "EDGE".toList then (readTimes rest).map fun n => List.replicate n .edge
  else if name = "TICK".toList then (readTimes rest).map fun n => List.replicate n .tick
  else if name = "RESET".toList then if rest = [] then some [.reset] else none
  else if name = "SEQ".toList then if rest = [] then some [.seq] else none
  else
    let operands := if rest = [] then [] else (cutAtCommas rest).map trimmed
    (assembleCommand name operands).map fun c => [.command c]

/-- A script: its lines in order. -/
def assembleScript (lines : List (List Char)) : Option (List AgentStep) :=
  (lines.mapM assembleLine).map List.flatten

end Sys2Proof.Machine
end

