-- ==== Sys2Proof/Safety.lean ====
section
/-! DEFINITION. The terms that claims are stated in: the invariants of 10_state.md R39, and the accounting of edges
over a run. -/

namespace Sys2Proof.Machine

/-- The invariants of R39 (a) to (h), with what follows from the same write rules: `RC` is 0 to 5 (60_exceptions.md
R200), `FAULT.NUM` comes with termination (R206), and no cancellation is pending in a running wait
(45_control_loop.md R180). -/
structure Inv (s : State) : Prop where
  /-- `CW` is at least 1 (00_scope.md R5). -/
  cwPositive : s.cfg.wf = true
  /-- R39(a). -/
  phaseLegal : s.phase.toNat ≤ 4
  /-- R39(a). -/
  stoppedInWait : s.run = false → s.phase = 0#3
  /-- R39(b). -/
  runningValid : s.run = true → cfgValid s.cfg = true
  /-- R39(b). -/
  faultCfg : s.fault.getLsbD 0 = !cfgValid s.cfg
  /-- R206. -/
  numStops : s.fault.getLsbD 1 = true → s.run = false
  /-- R39(c). -/
  timerLive : s.run = true → s.phase = 0#3 → 1 ≤ s.tmr.toNat
  /-- R39(c). -/
  timerBound : s.tmr.toNat ≤ s.cfg.intervalMs.toNat
  /-- R180. -/
  stopPending : s.run = true → s.stopReq = true → s.phase ≠ 0#3
  /-- R39(d). -/
  integBound : s.integ = 0#32 ∨ (s.cfg.imin.toInt ≤ s.integ.toInt ∧ s.integ.toInt ≤ s.cfg.imax.toInt)
  /-- R39(e). -/
  outBound : 0 ≤ s.out.toInt ∧ s.out.toInt ≤ 6553600
  /-- R39(f). -/
  dutyBound : s.duty.toNat ≤ s.cfg.dutyMax.toNat
  /-- R39(g). -/
  measBound : 0 ≤ s.meas.toInt
  /-- R23. -/
  countBound : s.cnt.toNat ≤ cntMax s.cfg
  /-- R39(h). -/
  overflowFull : s.ovf = true → s.cnt.toNat = cntMax s.cfg
  /-- R200. -/
  codeLegal : s.rc.toNat ≤ 5

/-- No `FAULT` bit is set, "the premise of any claim of correct operation" (10_state.md R33). -/
def FaultFree (s : State) : Prop := s.fault = 0#4

/-- The moves of (`RUN`, `PHASE`), read from the table of 45_control_loop.md R180: what an agent step taken in `s`
leaves in them. -/
def loopMove (a : AgentStep) (s : State) : Bool × BitVec 3 :=
  match a with
  | .reset => (cfgValid s.cfg, 0#3)
  | .edge => (s.run, s.phase)
  | .tick => if s.run = true ∧ s.phase = 0#3 ∧ s.tmr.toNat = 1 then (true, 1#3) else (s.run, s.phase)
  | .command c =>
    if s.run = true ∧ s.phase = 0#3 ∧ c.cmd = 0x09#8 then (false, 0#3) else (s.run, s.phase)
  | .seq =>
    if s.run = true then
      if s.phase = 1#3 then
        if velq s.cnt.toNat s.cfg.intervalMs.toNat ≤ 2 ^ 31 - 1 then (true, 2#3) else (false, 0#3)
      else if s.phase = 2#3 then (true, 3#3)
      else if s.phase = 3#3 then (true, 4#3)
      else if s.phase = 4#3 then (!s.stopReq, 0#3)
      else (s.run, s.phase)
    else (s.run, s.phase)

/-- `k` steps of the machine, stopping at the first fault or refusal. -/
def steps (k : Nat) (s : State) : Result := Host.Core.run Sys2Proof.core k s

/-- The agent steps of the next `k` steps, each with the state it is taken in. -/
def history : Nat → State → List (AgentStep × State)
  | 0, _ => []
  | k + 1, s =>
    s.nextInput ::
      match step s with
      | .next t => history k t
      | .fault _ => []
      | .refused _ => []

/-- What a step's read-and-clear returns, if it performs one: `uSAMPLE`, or `RDCLR` of a terminated loop
(41_pulse_accumulator.md R123, R124). -/
def readOf (p : AgentStep × State) : Option (Word × Bool) :=
  match select p.1 p.2 with
  | .run .uSample => some p.2.count
  | .run .rdclr => if p.2.run then none else some p.2.count
  | _ => none

/-- The edges of a history. -/
def edgesIn (h : List (AgentStep × State)) : Nat := h.countP (fun p => decide (p.1 = .edge))

/-- The sum of the counts that a history's read-and-clears return. -/
def countsIn (h : List (AgentStep × State)) : Nat := ((h.filterMap readOf).map (fun r => r.1.toNat)).sum

/-- Whether some read-and-clear of a history returns the overflow flag. -/
def overflowIn (h : List (AgentStep × State)) : Bool := (h.filterMap readOf).any (fun r => r.2)

/-- Whether a history holds a `RESET`. -/
def resetIn (h : List (AgentStep × State)) : Bool := h.any (fun p => decide (p.1 = .reset))

end Sys2Proof.Machine
end

