-- ==== Sys2Proof/Certificates/Slice0/Obligations.lean ====
section
/-! DEFINITION. The statements for the provers. -/

open Sys2Proof Sys2Proof.Machine

/-! ### Commands: what each one answers, in every state -/

/-- R189: `NOP` writes the response latches and nothing else. -/
def Obligations.NopWritesTheLatches : Prop :=
  (∀ a b c : Word, decodeCommand ⟨0x00#8, a, b, c⟩ = .ok .nop) ∧
  ∀ s : State, exec .nop s = .next { s with rc := 0#3, res := 0#32, res2 := 0#32 }

/-- R105: `TOFIX` scales an integer that fits and refuses the others with `ERR_RANGE`. -/
def Obligations.TofixScalesOrRefuses : Prop :=
  (∀ a b c : Word, decodeCommand ⟨0x01#8, a, b, c⟩ = .ok (.tofix a)) ∧
  ∀ (s : State) (a : Word),
    (-32768 ≤ a.toInt ∧ a.toInt ≤ 32767 →
      ∃ r : Word, r.toInt = a.toInt * 65536 ∧
        exec (.tofix a) s = .next { s with rc := 0#3, res := r, res2 := 0#32 }) ∧
    (a.toInt < -32768 ∨ 32767 < a.toInt →
      exec (.tofix a) s = .next { s with rc := 3#3, fault := s.fault ||| 8#4 })

/-- R106: `FROMFIX` splits a FixedPoint word exactly into its floor and its fraction, and never refuses. -/
def Obligations.FromfixSplitsExactly : Prop :=
  (∀ a b c : Word, decodeCommand ⟨0x02#8, a, b, c⟩ = .ok (.fromfix a)) ∧
  ∀ (s : State) (a : Word),
    ∃ r r2 : Word, a.toInt = r.toInt * 65536 + r2.toNat ∧ r2.toNat ≤ 65535 ∧
      exec (.fromfix a) s = .next { s with rc := 0#3, res := r, res2 := r2 }

/-- R107, R103(f), R111: where the rescaled product fits a word, `MUL` answers the greatest word not above the exact
product, less than one unit of least precision below it; elsewhere it refuses with `ERR_RANGE`. -/
def Obligations.MulTruncatesOrRefuses : Prop :=
  (∀ a b c : Word, decodeCommand ⟨0x03#8, a, b, c⟩ = .ok (.mul a b)) ∧
  ∀ (s : State) (a b : Word),
    (-(2 ^ 47) ≤ a.toInt * b.toInt ∧ a.toInt * b.toInt < 2 ^ 47 →
      ∃ r : Word, r.toInt * 65536 ≤ a.toInt * b.toInt ∧ a.toInt * b.toInt < (r.toInt + 1) * 65536 ∧
        exec (.mul a b) s = .next { s with rc := 0#3, res := r, res2 := 0#32 }) ∧
    (a.toInt * b.toInt < -(2 ^ 47) ∨ 2 ^ 47 ≤ a.toInt * b.toInt →
      exec (.mul a b) s = .next { s with rc := 3#3, fault := s.fault ||| 8#4 })

/-- R108, R104: `CLAMP` answers the bound that `x` passes, or `x`; bounds out of order are refused. -/
def Obligations.ClampSelectsOrRefuses : Prop :=
  (∀ a b c : Word, decodeCommand ⟨0x04#8, a, b, c⟩ = .ok (.clamp a b c)) ∧
  ∀ (s : State) (x lo hi : Word),
    (lo.toInt ≤ hi.toInt →
      ∃ r : Word, exec (.clamp x lo hi) s = .next { s with rc := 0#3, res := r, res2 := 0#32 } ∧
        (x.toInt < lo.toInt → r = lo) ∧ (hi.toInt < x.toInt → r = hi) ∧
        (lo.toInt ≤ x.toInt → x.toInt ≤ hi.toInt → r = x)) ∧
    (hi.toInt < lo.toInt →
      exec (.clamp x lo hi) s = .next { s with rc := 4#3, fault := s.fault ||| 8#4 })

/-- R104: `clamp` is the bound that is passed or the value itself; it stays in the interval, fixes exactly its members,
is monotone and idempotent. -/
def Obligations.ClampLaws : Prop :=
  ∀ x y lo hi : Int, lo ≤ hi →
    (x < lo → clamp x lo hi = lo) ∧ (hi < x → clamp x lo hi = hi) ∧
    (lo ≤ clamp x lo hi ∧ clamp x lo hi ≤ hi) ∧ (clamp x lo hi = x ↔ lo ≤ x ∧ x ≤ hi) ∧
    (x ≤ y → clamp x lo hi ≤ clamp y lo hi) ∧ clamp (clamp x lo hi) lo hi = clamp x lo hi

/-- R137, R136: `VEL` answers the truncated quotient below 32768 pulses per second, `ERR_RANGE` from there on, and
`ERR_DIV0` for a zero interval whatever the count. -/
def Obligations.VelConvertsOrRefuses : Prop :=
  (∀ a b c : Word, decodeCommand ⟨0x05#8, a, b, c⟩ = .ok (.vel a b)) ∧
  ∀ (s : State) (count interval : Word),
    (count.toNat * 65536000 < 2 ^ 31 * interval.toNat →
      ∃ v : Word, v.toNat * interval.toNat ≤ count.toNat * 65536000 ∧
        count.toNat * 65536000 < (v.toNat + 1) * interval.toNat ∧ v.toNat < 2 ^ 31 ∧
        exec (.vel count interval) s = .next { s with rc := 0#3, res := v, res2 := 0#32 }) ∧
    (interval ≠ 0#32 ∧ 2 ^ 31 * interval.toNat ≤ count.toNat * 65536000 →
      exec (.vel count interval) s = .next { s with rc := 3#3, fault := s.fault ||| 8#4 }) ∧
    (interval = 0#32 →
      exec (.vel count interval) s = .next { s with rc := 5#3, fault := s.fault ||| 8#4 })

/-- R124: `RDCLR` of a terminated loop returns the count with its flag and zeroes both; of a running loop it is refused
with `ERR_BUSY`. -/
def Obligations.RdclrReturnsAndZeroes : Prop :=
  (∀ a b c : Word, decodeCommand ⟨0x06#8, a, b, c⟩ = .ok .rdclr) ∧
  ∀ s : State,
    (s.run = false → exec .rdclr s = .next { s with
      cnt := 0#32
      ovf := false
      rc := 0#3
      res := s.cnt
      res2 := if s.ovf then 1#32 else 0#32 }) ∧
    (s.run = true → exec .rdclr s = .next { s with rc := 2#3, fault := s.fault ||| 8#4 })

/-- R202, R207: a command that is not answered `OK`, whether its word is illegal or the operation refuses it, changes
`RC`, sets `FAULT.CMD`, and changes nothing else. -/
def Obligations.RefusedCommandsChangeNothingElse : Prop :=
  ∀ (s t : State) (c : Command) (rest : List AgentStep), s.inputs = .command c :: rest → step s = .next t →
    t.rc ≠ 0#3 → t = { s with inputs := rest, rc := t.rc, fault := s.fault ||| 8#4 }

/-- R156, R150: `PISTEP` of a terminated loop, its two products given as the truncated ones; with the configured
bounds out of order it is refused with `ERR_ORDER`, and of a running loop, before that check, with `ERR_BUSY`. -/
def Obligations.PistepComputesTheStep : Prop :=
  (∀ a b c : Word, decodeCommand ⟨0x07#8, a, b, c⟩ = .ok (.pistep a b)) ∧
  ∀ (s : State) (a b : Word),
    (s.run = false → s.cfg.imin.toInt ≤ s.cfg.imax.toInt →
      ∃ (p term : Int) (i o : Word),
        p * 65536 ≤ s.cfg.kp.toInt * (a.toInt - b.toInt) ∧ s.cfg.kp.toInt * (a.toInt - b.toInt) < (p + 1) * 65536 ∧
        term * 65536 ≤ s.cfg.ki.toInt * (a.toInt - b.toInt) ∧
        s.cfg.ki.toInt * (a.toInt - b.toInt) < (term + 1) * 65536 ∧
        i.toInt = max s.cfg.imin.toInt (min (s.integ.toInt + term) s.cfg.imax.toInt) ∧
        o.toInt = max 0 (min (p + i.toInt) 6553600) ∧
        exec (.pistep a b) s = .next { s with integ := i, out := o, rc := 0#3, res := o, res2 := i }) ∧
    (s.run = false → s.cfg.imax.toInt < s.cfg.imin.toInt →
      exec (.pistep a b) s = .next { s with rc := 4#3, fault := s.fault ||| 8#4 }) ∧
    (s.run = true → exec (.pistep a b) s = .next { s with rc := 2#3, fault := s.fault ||| 8#4 })

/-- R172: `APPLY` of a terminated loop clamps the percentage and scales it linearly, truncating once; of a running loop
it is refused with `ERR_BUSY`. -/
def Obligations.ApplyScalesTheDuty : Prop :=
  (∀ a b c : Word, decodeCommand ⟨0x08#8, a, b, c⟩ = .ok (.apply a)) ∧
  ∀ (s : State) (a : Word),
    (s.run = false →
      ∃ d : Word,
        (d.toNat : Int) * 6553600 ≤ max 0 (min a.toInt 6553600) * s.cfg.dutyMax.toNat ∧
        max 0 (min a.toInt 6553600) * s.cfg.dutyMax.toNat < ((d.toNat : Int) + 1) * 6553600 ∧
        exec (.apply a) s = .next { s with duty := d, rc := 0#3, res := d, res2 := 0#32 }) ∧
    (s.run = true → exec (.apply a) s = .next { s with rc := 2#3, fault := s.fault ||| 8#4 })

/-- R171: the duty map is the truncated linear scale of the clamped percentage; it is monotone, pinned at both ends, and
never above `DUTY_MAX`. -/
def Obligations.DutyMapLaws : Prop :=
  ∀ (c : Config) (p q : Int),
    ((dutyq c p : Int) * 6553600 ≤ max 0 (min p 6553600) * c.dutyMax.toNat ∧
      max 0 (min p 6553600) * c.dutyMax.toNat < ((dutyq c p : Int) + 1) * 6553600) ∧
    max 0 (min p 6553600) * c.dutyMax.toNat < 2 ^ 55 ∧
    (p ≤ q → dutyq c p ≤ dutyq c q) ∧ (p ≤ 0 → dutyq c p = 0) ∧ (6553600 ≤ p → dutyq c p = c.dutyMax.toNat) ∧
    dutyq c p ≤ c.dutyMax.toNat

/-- R187: `CANCEL` always sets `STOP_REQ`, and stops a loop that is in `WAIT` at once. -/
def Obligations.CancelRequestsTheStop : Prop :=
  (∀ a b c : Word, decodeCommand ⟨0x09#8, a, b, c⟩ = .ok .cancel) ∧
  ∀ s : State, exec .cancel s = .next { s with
    stopReq := true
    run := if s.phase = 0#3 then false else s.run
    rc := 0#3
    res := 0#32
    res2 := 0#32 }

/-- R188, R37: `RDREG` answers the register that each number names, and refuses the reserved numbers 14 and 15 with
`ERR_ILLEGAL`. -/
def Obligations.RdregReadsTheTable : Prop :=
  (∀ (n : BitVec 4) (a b c : Word), n.toNat ≤ 13 → decodeCommand ⟨n ++ 0xA#4, a, b, c⟩ = .ok (.rdreg n)) ∧
  ∀ (s : State) (n : BitVec 4),
    (∀ v : Word,
      (n, v) ∈ [(0#4, s.statusWord), (1#4, s.faultWord), (2#4, s.cfg.kp), (3#4, s.cfg.ki), (4#4, s.cfg.imin),
        (5#4, s.cfg.imax), (6#4, s.cfg.target), (7#4, s.cfg.intervalMs), (8#4, s.cfg.dutyMax), (9#4, s.integ),
        (10#4, s.meas), (11#4, s.out), (12#4, s.duty), (13#4, s.tmr)] →
      exec (.rdreg n) s = .next { s with rc := 0#3, res := v, res2 := 0#32 }) ∧
    (14 ≤ n.toNat → exec (.rdreg n) s = .next { s with rc := 1#3, fault := s.fault ||| 8#4 })

/-- R64: reading a register leaves every register as it was, so that reading it again answers the same. -/
def Obligations.RegisterReadsRepeat : Prop :=
  ∀ (s : State) (n : BitVec 4), n.toNat ≤ 13 →
    ∃ t, exec (.rdreg n) s = .next t ∧ exec (.rdreg n) t = .next t ∧
      t = { s with rc := t.rc, res := t.res, res2 := t.res2 }

/-- R34, R33: the bits of `STATUS` and of `FAULT` as they are read. -/
def Obligations.StatusAndFaultLayout : Prop :=
  ∀ s : State,
    s.statusWord.getLsbD 0 = s.run ∧ s.statusWord.extractLsb' 1 3 = s.phase ∧ s.statusWord.getLsbD 4 = s.stopReq ∧
      s.statusWord.getLsbD 5 = s.cfg.diagEn ∧ s.statusWord.extractLsb' 6 26 = 0#26 ∧
      s.faultWord.extractLsb' 0 4 = s.fault ∧ s.faultWord.extractLsb' 4 28 = 0#28

/-- R100, R137, R64, R189: the commands that touch no loop state write the response latches, and `FAULT.CMD` if
refused. -/
def Obligations.PureCommandsTouchTheLatchesOnly : Prop :=
  ∀ (s : State) (i : Instr) (a b c : Word) (n : BitVec 4),
    i ∈ [.nop, .tofix a, .fromfix a, .mul a b, .clamp a b c, .vel a b, .rdreg n] →
    ∃ rc res res2, exec i s = .next { s with rc := rc, res := res, res2 := res2 } ∨
      (rc ≠ 0#3 ∧ exec i s = .next { s with rc := rc, fault := s.fault ||| 8#4 })

/-! ### Micro-operations -/

/-- The countdown that the tick performs, as the meaning of `uWAIT`: the model's reading (entry 6, from R182, R138, R87). -/
def Obligations.WaitCountsDown : Prop :=
  decodePhase 0#3 = .ok .uWait ∧
  ∀ s : State, 1 ≤ s.tmr.toNat →
    ∃ m : Word, m.toNat + 1 = s.tmr.toNat ∧
      exec .uWait s = .next { s with tmr := m, phase := if s.tmr.toNat = 1 then 1#3 else s.phase }

/-- R183, R205, R206: `uSAMPLE` reads and clears the counter, flags a saturated count, and either measures the velocity
or, where it does not fit, terminates the loop with `FAULT.NUM`. -/
def Obligations.SampleMeasuresOrTerminates : Prop :=
  decodePhase 1#3 = .ok .uSample ∧
  ∀ s : State,
    (s.cnt.toNat * 65536000 < 2 ^ 31 * s.cfg.intervalMs.toNat →
      ∃ v : Word, v.toNat * s.cfg.intervalMs.toNat ≤ s.cnt.toNat * 65536000 ∧
        s.cnt.toNat * 65536000 < (v.toNat + 1) * s.cfg.intervalMs.toNat ∧ v.toNat < 2 ^ 31 ∧
        exec .uSample s = .next { s with
          cnt := 0#32
          ovf := false
          fault := if s.ovf then s.fault ||| 4#4 else s.fault
          meas := v
          phase := 2#3 }) ∧
    (s.cfg.intervalMs ≠ 0#32 → 2 ^ 31 * s.cfg.intervalMs.toNat ≤ s.cnt.toNat * 65536000 →
      exec .uSample s = .next { s with
        cnt := 0#32
        ovf := false
        fault := (if s.ovf then s.fault ||| 4#4 else s.fault) ||| 2#4
        run := false
        phase := 0#3 })

/-- R184, R150 to R154: `uPI`, its two products given as the truncated ones. -/
def Obligations.PiComputesTheStep : Prop :=
  decodePhase 2#3 = .ok .uPi ∧
  ∀ s : State, s.cfg.imin.toInt ≤ s.cfg.imax.toInt →
    ∃ (p term : Int) (i o : Word),
      p * 65536 ≤ s.cfg.kp.toInt * (s.cfg.target.toInt - s.meas.toInt) ∧
      s.cfg.kp.toInt * (s.cfg.target.toInt - s.meas.toInt) < (p + 1) * 65536 ∧
      term * 65536 ≤ s.cfg.ki.toInt * (s.cfg.target.toInt - s.meas.toInt) ∧
      s.cfg.ki.toInt * (s.cfg.target.toInt - s.meas.toInt) < (term + 1) * 65536 ∧
      i.toInt = max s.cfg.imin.toInt (min (s.integ.toInt + term) s.cfg.imax.toInt) ∧
      o.toInt = max 0 (min (p + i.toInt) 6553600) ∧
      exec .uPi s = .next { s with integ := i, out := o, phase := 3#3 }

/-- R185, R171: `uAPPLY` drives the scaled output. -/
def Obligations.ApplyPhaseDrivesTheDuty : Prop :=
  decodePhase 3#3 = .ok .uApply ∧
  ∀ s : State,
    ∃ d : Word,
      (d.toNat : Int) * 6553600 ≤ max 0 (min s.out.toInt 6553600) * s.cfg.dutyMax.toNat ∧
      max 0 (min s.out.toInt 6553600) * s.cfg.dutyMax.toNat < ((d.toNat : Int) + 1) * 6553600 ∧
      exec .uApply s = .next { s with duty := d, phase := 4#3 }

/-- R186: `uDIAG` emits the record, reloads the timer, closes the cycle, and stops a loop with a pending
cancellation. -/
def Obligations.DiagClosesTheCycle : Prop :=
  decodePhase 4#3 = .ok .uDiag ∧
  ∀ s : State, exec .uDiag s = .next { s with
    diag := if s.cfg.diagEn then s.diag ++ [(s.meas, s.out)] else s.diag
    tmr := s.cfg.intervalMs
    phase := 0#3
    run := if s.stopReq then false else s.run }

/-- R157, R154, R39(d), R39(e): whatever the operands and the gains, a controller step completes, and leaves `INTEG` in
its bounds and `OUT` in 0 to 100 percent; and once `INTEG` is in its bounds, every step but `RESET` keeps it there. -/
def Obligations.ControllerResultsStayInBounds : Prop :=
  ∀ (s : State) (a b : Word), s.cfg.imin.toInt ≤ s.cfg.imax.toInt →
    (∃ t, exec .uPi s = .next t ∧ s.cfg.imin.toInt ≤ t.integ.toInt ∧ t.integ.toInt ≤ s.cfg.imax.toInt ∧
      0 ≤ t.out.toInt ∧ t.out.toInt ≤ 6553600) ∧
    (s.run = false →
      ∃ t, exec (.pistep a b) s = .next t ∧ s.cfg.imin.toInt ≤ t.integ.toInt ∧ t.integ.toInt ≤ s.cfg.imax.toInt ∧
        0 ≤ t.out.toInt ∧ t.out.toInt ≤ 6553600) ∧
    (∀ t, step s = .next t → s.nextInput.1 ≠ .reset →
      s.cfg.imin.toInt ≤ s.integ.toInt → s.integ.toInt ≤ s.cfg.imax.toInt →
      t.cfg.imin.toInt ≤ t.integ.toInt ∧ t.integ.toInt ≤ t.cfg.imax.toInt)

/-- R150, R101: every intermediate of a controller step on 32-bit words has the bounds of R150's comments, so 64 bits
hold it. -/
def Obligations.ControllerIntermediatesFit : Prop :=
  ∀ gain integ target measured : Word,
    |target.toInt - measured.toInt| ≤ 2 ^ 32 - 1 ∧
      |gain.toInt * (target.toInt - measured.toInt)| < 2 ^ 63 ∧
      |mulq gain.toInt (target.toInt - measured.toInt)| ≤ 2 ^ 47 ∧
      |mulq gain.toInt (target.toInt - measured.toInt) + integ.toInt| ≤ 2 ^ 47 + 2 ^ 31

/-- R103: `mulq` is the greatest integer not above the rescaled product, commutative, with 1.0 as its identity and 0 as
its zero; it truncates toward negative infinity, so it does not commute with negation. -/
def Obligations.MultiplyLaws : Prop :=
  (∀ a b : Int, (mulq a b * 65536 ≤ a * b ∧ a * b < (mulq a b + 1) * 65536) ∧
    mulq a b = mulq b a ∧ mulq a 65536 = a ∧ mulq a 0 = 0) ∧ mulq 1 1 = 0 ∧ mulq (-1) 1 = -1

/-- R158: with the same error at every step, `k` `PISTEP`s add a term of at least 1 `k` times and pin the integral at
`IMAX`, every one below `IMAX` strictly increasing it; symmetrically for a term of at most -1 and `IMIN`; a term of 0 leaves it. -/
def Obligations.IntegralWindsUpThenPins : Prop :=
  ∀ (s : State) (a b : Word) (c : Command) (term : Int) (k : Nat) (rest : List AgentStep),
    decodeCommand c = .ok (.pistep a b) → s.run = false → s.phase = 0#3 →
    s.cfg.imin.toInt ≤ s.integ.toInt → s.integ.toInt ≤ s.cfg.imax.toInt →
    term * 65536 ≤ s.cfg.ki.toInt * (a.toInt - b.toInt) →
    s.cfg.ki.toInt * (a.toInt - b.toInt) < (term + 1) * 65536 →
    s.inputs = List.replicate k (.command c) ++ rest →
    (1 ≤ term →
      ∃ t, steps k s = .next t ∧
        t.integ.toInt = min (s.integ.toInt + k * term) s.cfg.imax.toInt ∧
        (0 < k → s.integ.toInt < s.cfg.imax.toInt → s.integ.toInt < t.integ.toInt)) ∧
    (term = 0 → ∃ t, steps k s = .next t ∧ t.integ = s.integ) ∧
    (term ≤ -1 →
      ∃ t, steps k s = .next t ∧
        t.integ.toInt = max (s.integ.toInt + k * term) s.cfg.imin.toInt ∧
        (0 < k → s.cfg.imin.toInt < s.integ.toInt → t.integ.toInt < s.integ.toInt))

/-! ### Events and agents -/

/-- R122: an edge is counted, or flagged when the counter is full, and changes nothing else. -/
def Obligations.EdgeCountsOrFlags : Prop :=
  ∀ (s : State) (rest : List AgentStep), s.inputs = .edge :: rest → s.phase.toNat ≤ 4 →
    (s.cnt.toNat < 2 ^ s.cfg.cw.val - 1 →
      ∃ n : Word, n.toNat = s.cnt.toNat + 1 ∧ step s = .next { s with inputs := rest, cnt := n }) ∧
    (s.cnt.toNat = 2 ^ s.cfg.cw.val - 1 → step s = .next { s with inputs := rest, ovf := true })

/-- R67: a read-and-clear, by `RDCLR` or by `uSAMPLE`, and then the edge that coincides with it: the read takes the
count without the edge, which is the one left in the counter, unflagged. -/
def Obligations.ReadThenEdgeLeavesOne : Prop :=
  ∀ (s : State) (rest : List AgentStep), Inv s →
    (∀ c : Command, decodeCommand c = .ok .rdclr → s.run = false → s.inputs = .command c :: .edge :: rest →
      ∃ t, steps 2 s = .next t ∧ t.res = s.cnt ∧ t.cnt = 1#32 ∧ t.ovf = false) ∧
    (s.run = true → s.phase = 1#3 → s.inputs = .seq :: .edge :: rest →
      ∃ t, steps 2 s = .next t ∧ t.cnt = 1#32 ∧ t.ovf = false ∧
        (t.run = true → t.meas.toNat = velq s.cnt.toNat s.cfg.intervalMs.toNat))

/-- R138: a tick counts down a running wait, and has no effect anywhere else. -/
def Obligations.TickActsInTheWaitOnly : Prop :=
  ∀ (s : State) (rest : List AgentStep), s.inputs = .tick :: rest → s.phase.toNat ≤ 4 →
    (s.run = true → s.phase = 0#3 → 1 ≤ s.tmr.toNat →
      ∃ m : Word, m.toNat + 1 = s.tmr.toNat ∧
        step s = .next { s with inputs := rest, tmr := m, phase := if s.tmr.toNat = 1 then 1#3 else 0#3 }) ∧
    (s.run = false ∨ s.phase ≠ 0#3 → step s = .next { s with inputs := rest })

/-- R87: in a running loop `PHASE` selects the micro-operation; the sequencer performs it, but for `uWAIT`, which the
tick performs. -/
def Obligations.PhaseSelectsTheMicroOperation : Prop :=
  ∀ (s : State) (rest : List AgentStep), s.run = true →
    (s.inputs = .tick :: rest → s.phase = 0#3 → step s = exec .uWait { s with inputs := rest }) ∧
    (s.inputs = .seq :: rest →
      (s.phase = 1#3 → step s = exec .uSample { s with inputs := rest }) ∧
      (s.phase = 2#3 → step s = exec .uPi { s with inputs := rest }) ∧
      (s.phase = 3#3 → step s = exec .uApply { s with inputs := rest }) ∧
      (s.phase = 4#3 → step s = exec .uDiag { s with inputs := rest }))

/-- The MODEL's choice (entry 3, from R181): a scheduled sequencer step that is not enabled is taken and changes
nothing. -/
def Obligations.SequencerIdlesWhenNotEnabled : Prop :=
  ∀ (s : State) (rest : List AgentStep), s.inputs = .seq :: rest → s.phase.toNat ≤ 4 →
    s.run = false ∨ s.phase = 0#3 → step s = .next { s with inputs := rest }

/-- R230: `RESET` puts every register at its reset value from any state, and leaves the configuration. Of the model's
own fields it says nothing (entry 10). -/
def Obligations.ResetSetsEveryRegister : Prop :=
  ∀ (s : State) (rest : List AgentStep), s.inputs = .reset :: rest →
    ∃ (l : List AgentStep) (n : Nat), step s = .next {
      cfg := s.cfg, cnt := 0#32, ovf := false, integ := 0#32, meas := 0#32, out := 0#32, duty := 0#32,
      tmr := s.cfg.intervalMs,
      run := decide (s.cfg.intervalMs ≠ 0#32 ∧ s.cfg.imin.toInt ≤ s.cfg.imax.toInt),
      phase := 0#3, stopReq := false,
      fault := if s.cfg.intervalMs ≠ 0#32 ∧ s.cfg.imin.toInt ≤ s.cfg.imax.toInt then 0#4 else 1#4,
      rc := 0#3, res := 0#32, res2 := 0#32, diag := [], inputs := l, envTime := n }

/-- R31 and the MODEL's reading of it (entry 4): every agent step but `RESET` stops with a fault where `PHASE` is 5,
6 or 7. -/
def Obligations.ReservedPhaseFaults : Prop :=
  ∀ (s : State) (a : AgentStep) (rest : List AgentStep), s.inputs = a :: rest → a ≠ .reset → 5 ≤ s.phase.toNat →
    step s = .fault .reservedPhase

/-- The MODEL's choice (entry 2, from R65): where nothing is scheduled, the agent step is the environment's free
choice at the current moment, whatever it is, and the moment advances. -/
def Obligations.UnscheduledStepIsTheEnvironments : Prop :=
  ∀ s : State, s.inputs = [] →
    step s = perform (Config.environment s.envTime) { s with envTime := s.envTime + 1 }

/-! ### Decoding -/

/-- Every well-formed operation is decoded from its own encoding, with every operand. -/
def Obligations.DecodeOfEncodeIsTheOperation : Prop :=
  ∀ i : Instr, i.wf = true → decode (encode i) = .ok i

/-- R86, R84, R90: whatever decodes is well-formed and is encoded by the same command word, its operand words each kept
or, where ignored, 0; and a phase that decodes is the encoding of its micro-operation. -/
def Obligations.EncodeOfDecodeIsTheWord : Prop :=
  (∀ (c : Command) (i : Instr), decodeCommand c = .ok i →
    i.wf = true ∧ ∃ x y z : Word, encode i = .command ⟨c.cmd, x, y, z⟩ ∧
      (x = c.a ∨ x = 0#32) ∧ (y = c.b ∨ y = 0#32) ∧ (z = c.c ∨ z = 0#32)) ∧
  (∀ (p : BitVec 3) (i : Instr), decodePhase p = .ok i → i.wf = true ∧ encode i = .phase p)

/-- R83: the opcode map, with the operand words each command reads; the values 11 to 15 of `op` are reserved. -/
def Obligations.OpcodeMapReadsTheOperands : Prop :=
  ∀ a b c : Word,
    decodeCommand ⟨0x00#8, a, b, c⟩ = .ok .nop ∧ decodeCommand ⟨0x01#8, a, b, c⟩ = .ok (.tofix a) ∧
    decodeCommand ⟨0x02#8, a, b, c⟩ = .ok (.fromfix a) ∧ decodeCommand ⟨0x03#8, a, b, c⟩ = .ok (.mul a b) ∧
    decodeCommand ⟨0x04#8, a, b, c⟩ = .ok (.clamp a b c) ∧ decodeCommand ⟨0x05#8, a, b, c⟩ = .ok (.vel a b) ∧
    decodeCommand ⟨0x06#8, a, b, c⟩ = .ok .rdclr ∧ decodeCommand ⟨0x07#8, a, b, c⟩ = .ok (.pistep a b) ∧
    decodeCommand ⟨0x08#8, a, b, c⟩ = .ok (.apply a) ∧ decodeCommand ⟨0x09#8, a, b, c⟩ = .ok .cancel ∧
    (∀ n : BitVec 4, n.toNat ≤ 13 → decodeCommand ⟨n ++ 0xA#4, a, b, c⟩ = .ok (.rdreg n)) ∧
    ∀ n op : BitVec 4, 11 ≤ op.toNat → decodeCommand ⟨n ++ op, a, b, c⟩ = .error .reservedOp

/-- R85: the illegal command words, 232 of the 256, and what each is answered: refused with `ERR_ILLEGAL`, in both loop
states, with nothing else changed. -/
def Obligations.IllegalWordsAreRefused : Prop :=
  (∀ (s : State) (c : Command) (rest : List AgentStep), s.inputs = .command c :: rest → s.phase.toNat ≤ 4 →
    11 ≤ c.cmd.toNat % 16 ∨ (c.cmd.toNat % 16 ≤ 9 ∧ c.cmd.toNat / 16 ≠ 0) ∨
      (c.cmd.toNat % 16 = 10 ∧ 14 ≤ c.cmd.toNat / 16) →
    step s = .next { s with inputs := rest, rc := 1#3, fault := s.fault ||| 8#4 }) ∧
  (∀ c : Command, (∃ i, decodeCommand c = .ok i) ↔
    (c.cmd.toNat % 16 ≤ 9 ∧ c.cmd.toNat / 16 = 0) ∨ (c.cmd.toNat % 16 = 10 ∧ c.cmd.toNat / 16 ≤ 13)) ∧
  ((List.range 256).countP fun n => (decodeTableWord 8 n).isNone) = 232

/-- A step runs the operation that the next agent step comes to: a decoded command, a decoded phase of the
sequencer, or `uWAIT` of a tick. -/
def Obligations.StepRunsTheDecodedOperation : Prop :=
  (∀ (s : State) (c : Command) (rest : List AgentStep) (i : Instr), s.inputs = .command c :: rest →
    s.phase.toNat ≤ 4 → decode (.command c) = .ok i → step s = exec i { s with inputs := rest }) ∧
  (∀ (s : State) (rest : List AgentStep) (i : Instr), s.inputs = .seq :: rest → s.run = true → s.phase ≠ 0#3 →
    decode (.phase s.phase) = .ok i → step s = exec i { s with inputs := rest }) ∧
  (∀ (s : State) (rest : List AgentStep) (i : Instr), s.inputs = .tick :: rest → s.run = true → s.phase = 0#3 →
    decode (.phase s.phase) = .ok i → step s = exec i { s with inputs := rest })

/-- The MODEL's placing of a table word (entry 8): the very next step runs the operation the word decodes to. -/
def Obligations.PlacedWordRunsNext : Prop :=
  ∀ (s : State) (nbits w : Nat) (i : Instr), decodeTableWord nbits w = some i →
    (3 < nbits → s.phase.toNat ≤ 4 → step (s.withFetchWord nbits w) = exec i s) ∧
    (nbits ≤ 3 → step (s.withFetchWord nbits w) = exec i { s with run := true, phase := BitVec.ofNat 3 w })

/-- R83, R87: words written out from the encoding tables decode to what they stand for. -/
def Obligations.SampleWordsDecode : Prop :=
  decodeTableWord 8 0b00000011 = some (.mul 0 0) ∧ decodeTableWord 8 0b00000101 = some (.vel 0 0) ∧
    decodeTableWord 8 0b00000110 = some .rdclr ∧ decodeTableWord 8 0b00000111 = some (.pistep 0 0) ∧
    decodeTableWord 8 0b00001000 = some (.apply 0) ∧ decodeTableWord 8 0b11011010 = some (.rdreg 13) ∧
    decodeTableWord 8 0b11101010 = none ∧ decodeTableWord 3 0b100 = some .uDiag ∧ decodeTableWord 3 0b101 = none

/-- R91: the pseudo-instructions are their expansions. -/
def Obligations.PseudoInstructionsExpand : Prop :=
  decodeCommand asmRdstatus = .ok (.rdreg 0) ∧ decodeCommand asmRdfault = .ok (.rdreg 1) ∧
    ∀ x : Word, decodeCommand (asmSatpct x) = .ok (.clamp x 0x00000000#32 0x00640000#32)

/-! ### Invariants over every step -/

/-- R40, R39: the state after reset meets the invariants, under every configuration. -/
def Obligations.ResetMeetsTheInvariants : Prop :=
  Inv State.reset ∧ ∀ c : Config, c.wf = true → Inv (State.resetWith c)

/-- R39: every step of every agent keeps the invariants. -/
def Obligations.EveryStepKeepsTheInvariants : Prop :=
  ∀ s t : State, Inv s → step s = .next t → Inv t

/-- R39 with R31, R136, R104, R110: from a state that meets the invariants, no run of any length, under any schedule and
any environment, stops with a fault or a refusal. -/
def Obligations.RunsNeverStop : Prop :=
  ∀ (s : State) (k : Nat), Inv s → ∃ t, steps k s = .next t ∧ Inv t

/-- R36: no step writes the configuration. -/
def Obligations.NoStepWritesTheConfiguration : Prop :=
  ∀ s t : State, step s = .next t → t.cfg = s.cfg

/-- R33, R39(i): only `RESET` clears a `FAULT` bit. -/
def Obligations.FaultBitsAreSticky : Prop :=
  ∀ (s t : State) (b : Nat), step s = .next t → s.nextInput.1 ≠ .reset →
    s.fault.getLsbD b = true → t.fault.getLsbD b = true

/-- R38: but for `RESET`, the diagnostic trace grows by one record at each `uDIAG` with `DIAG_EN`, and never otherwise
changes. -/
def Obligations.DiagnosticTraceOnlyGrows : Prop :=
  ∀ s t : State, step s = .next t → s.nextInput.1 ≠ .reset →
    t.diag =
      if s.nextInput.1 = .seq ∧ s.run = true ∧ s.phase = 4#3 ∧ s.cfg.diagEn = true then s.diag ++ [(s.meas, s.out)]
      else s.diag

/-- R180: every step moves (`RUN`, `PHASE`) as the table says, and not otherwise. -/
def Obligations.LoopMovesAreTheTable : Prop :=
  ∀ s t : State, Inv s → step s = .next t → (t.run, t.phase) = loopMove s.nextInput.1 s

/-- R190, R30: nothing but `RESET` leaves the terminated state, where `TMR`, `MEAS` and the trace hold, and `INTEG`,
`OUT` and `DUTY` change by the host's commands only. -/
def Obligations.TerminatedStateIsAbsorbing : Prop :=
  ∀ s t : State, s.run = false → step s = .next t → s.nextInput.1 ≠ .reset →
    t.run = false ∧ t.phase = s.phase ∧ t.tmr = s.tmr ∧ t.meas = s.meas ∧ t.diag = s.diag ∧
      ((∀ c, s.nextInput.1 ≠ .command c) → t.integ = s.integ ∧ t.out = s.out ∧ t.duty = s.duty)

/-- R191: without `CANCEL`, `RESET` or `FAULT.NUM` a running loop goes on running. -/
def Obligations.LoopNeverStopsByItself : Prop :=
  ∀ s t : State, Inv s → s.run = true → s.stopReq = false → step s = .next t → s.nextInput.1 ≠ .reset →
    (∀ c, s.nextInput.1 = .command c → decodeCommand c ≠ .ok .cancel) →
    t.stopReq = false ∧ (t.fault.getLsbD 1 = false → t.run = true)

/-- R41: while the loop runs, a host command reaches no register of the loop but `STOP_REQ`, `FAULT` and, in `WAIT`,
`RUN`. -/
def Obligations.HostCannotDisturbARunningLoop : Prop :=
  ∀ (s t : State) (c : Command), s.run = true → s.nextInput.1 = .command c → step s = .next t →
    t.cnt = s.cnt ∧ t.ovf = s.ovf ∧ t.integ = s.integ ∧ t.meas = s.meas ∧ t.out = s.out ∧ t.duty = s.duty ∧
      t.tmr = s.tmr ∧ t.phase = s.phase ∧ t.diag = s.diag ∧ (s.phase ≠ 0#3 → t.run = true) ∧
      (decodeCommand c ≠ .ok .cancel → t.run = true ∧ t.stopReq = s.stopReq)

/-! ### Runs -/

/-- R125: from reset and without another, the edges are the counts returned plus the final `CNT` when no overflow was
returned or is left, and more than them otherwise. -/
def Obligations.EdgesAreConserved : Prop :=
  ∀ (c : Config) (l : List AgentStep) (n k : Nat) (t : State),
    let s := { State.resetWith c with inputs := l, envTime := n }
    let h := history k s
    steps k s = .next t → resetIn h = false →
      (overflowIn h = false ∧ t.ovf = false → edgesIn h = countsIn h + t.cnt.toNat) ∧
      (overflowIn h = true ∨ t.ovf = true → countsIn h + t.cnt.toNat < edgesIn h)

/-- R139, R182: a wait lasts exactly the ticks that `TMR` says, whatever else but `RESET` and `CANCEL` falls into it. -/
def Obligations.WaitLastsItsTicks : Prop :=
  ∀ (s : State) (l rest : List AgentStep), Inv s → s.run = true → s.phase = 0#3 → s.inputs = l ++ rest →
    (∀ a ∈ l, a ≠ .reset ∧ ∀ c, a = .command c → decodeCommand c ≠ .ok .cancel) →
    (l.count .tick < s.tmr.toNat →
      ∃ t, steps l.length s = .next t ∧ t.run = true ∧ t.phase = 0#3 ∧
        t.tmr.toNat + l.count .tick = s.tmr.toNat) ∧
    (l.count .tick + 1 = s.tmr.toNat → rest.head? = some .tick →
      ∃ t, steps (l.length + 1) s = .next t ∧ t.run = true ∧ t.phase = 1#3 ∧ t.tmr = 0#32)

/-- R192: from a `uSAMPLE` to its `uDIAG`, whatever edges, ticks and commands fall between, the cycle is one function
of the state at the `uSAMPLE` and the count it reads. -/
def Obligations.CycleIsOneFunction : Prop :=
  ∀ (s : State) (l1 l2 l3 rest : List AgentStep), Inv s → s.run = true → s.phase = 1#3 →
    s.inputs = .seq :: l1 ++ .seq :: l2 ++ .seq :: l3 ++ .seq :: rest →
    (∀ a ∈ l1 ++ l2 ++ l3, a ≠ .seq ∧ a ≠ .reset) →
    (cycle s.cfg s.integ.toInt s.cnt.toNat).meas ≤ 2 ^ 31 - 1 →
    ∃ t, steps (l1.length + l2.length + l3.length + 4) s = .next t ∧
      t.meas.toNat = (cycle s.cfg s.integ.toInt s.cnt.toNat).meas ∧
      t.integ.toInt = (cycle s.cfg s.integ.toInt s.cnt.toNat).integ ∧
      t.out.toInt = (cycle s.cfg s.integ.toInt s.cnt.toNat).out ∧
      t.duty.toNat = (cycle s.cfg s.integ.toInt s.cnt.toNat).duty ∧
      t.diag = (if s.cfg.diagEn then s.diag ++ [(t.meas, t.out)] else s.diag) ∧
      t.phase = 0#3 ∧ t.tmr = s.cfg.intervalMs ∧ t.inputs = rest

/-- R187, R235: a cancelled loop outside `WAIT` has stopped once four sequencer steps have been taken, whatever else
but `RESET` falls between them. -/
def Obligations.CancelStopsWithinTheCycle : Prop :=
  ∀ (s : State) (l rest : List AgentStep), Inv s → s.stopReq = true → s.inputs = l ++ rest →
    (∀ a ∈ l, a ≠ .reset) → 4 ≤ l.count .seq →
    ∃ t, steps l.length s = .next t ∧ t.run = false ∧ t.phase = 0#3

/-- R181, R87: four sequencer steps, whatever else but `RESET` falls between them, bring the loop to `WAIT` at some
moment of the run; that the sequencer takes its enabled steps is the premise (entry 9). -/
def Obligations.SequencerReturnsToTheWait : Prop :=
  ∀ (s : State) (l rest : List AgentStep), Inv s → s.inputs = l ++ rest → (∀ a ∈ l, a ≠ .reset) → 4 ≤ l.count .seq →
    ∃ j t, j ≤ l.length ∧ steps j s = .next t ∧ t.phase = 0#3
end

