-- ==== Sys2Proof/Laws/Numeric.lean ====
section
/-! SUPPORT. What each pure function answers, said once: the provers cite these and unfold none of them. -/

namespace Sys2Proof.Machine

theorem fitsWord_iff (z : Int) : fitsWord z = true ↔ -2147483648 ≤ z ∧ z ≤ 2147483647 := by
  simp [fitsWord]

theorem word32_toInt (z : Int) (lo : -2147483648 ≤ z) (hi : z ≤ 2147483647) : (word32 z).toInt = z := by
  rw [word32, BitVec.toInt_ofInt]
  exact Int.bmod_eq_of_le (by omega) (by omega)

theorem zext32_toNat (n : Nat) (h : n < 4294967296) : (zext32 n).toNat = n := by
  rw [zext32, BitVec.toNat_ofNat]
  exact Nat.mod_eq_of_lt h

/-- `mulq` is the greatest integer not above the rescaled product. -/
theorem mulq_bounds (a b : Int) : mulq a b * 65536 ≤ a * b ∧ a * b < (mulq a b + 1) * 65536 := by
  unfold mulq asr16 floorDiv
  omega

theorem mulq_unique (a b q : Int) (lo : q * 65536 ≤ a * b) (hi : a * b < (q + 1) * 65536) : mulq a b = q := by
  unfold mulq asr16 floorDiv
  omega

theorem clamp_eq_max_min (x lo hi : Int) (h : lo ≤ hi) : clamp x lo hi = max lo (min x hi) := by
  unfold clamp
  split
  · omega
  · split <;> omega

theorem clamp_bounds (x lo hi : Int) (h : lo ≤ hi) : lo ≤ clamp x lo hi ∧ clamp x lo hi ≤ hi := by
  rw [clamp_eq_max_min x lo hi h]
  omega

theorem clamp_of_mem (x lo hi : Int) (h1 : lo ≤ x) (h2 : x ≤ hi) : clamp x lo hi = x := by
  unfold clamp
  split
  · omega
  · split <;> omega

/-- `velq` is the whole quotient, truncated. -/
theorem velq_bounds (count interval : Nat) (h : 0 < interval) :
    velq count interval * interval ≤ count * 65536000 ∧
      count * 65536000 < (velq count interval + 1) * interval := by
  unfold velq
  constructor
  · exact Nat.div_mul_le_self _ _
  · have := Nat.lt_mul_div_succ (count * 65536000) h
    rw [Nat.mul_comm interval] at this
    exact this

theorem boundsOrdered_iff (c : Config) : boundsOrdered c = true ↔ c.imin.toInt ≤ c.imax.toInt := by
  simp [boundsOrdered]

theorem cfgValid_iff (c : Config) :
    cfgValid c = true ↔ c.intervalMs ≠ 0#32 ∧ c.imin.toInt ≤ c.imax.toInt := by
  simp [cfgValid, boundsOrdered]

/-- The new integral is in bounds and the output is a percentage, whatever goes in. -/
theorem piStep_bounds (c : Config) (i t m : Int) (h : c.imin.toInt ≤ c.imax.toInt) :
    c.imin.toInt ≤ (piStep c i t m).1 ∧ (piStep c i t m).1 ≤ c.imax.toInt ∧
      0 ≤ (piStep c i t m).2 ∧ (piStep c i t m).2 ≤ 6553600 := by
  have hi := clamp_bounds (i + mulq c.ki.toInt (t - m)) c.imin.toInt c.imax.toInt h
  have ho := clamp_bounds (mulq c.kp.toInt (t - m) + (piStep c i t m).1) 0 fullScale (by decide)
  exact ⟨hi.1, hi.2, ho.1, ho.2⟩

/-- The duty value lies in `[0, DUTY_MAX]`. -/
theorem dutyq_le (c : Config) (p : Int) : dutyq c p ≤ c.dutyMax.toNat := by
  have h := clamp_bounds p 0 fullScale (by decide)
  have h2 : (clamp p 0 fullScale).toNat ≤ 6553600 := by
    have : fullScale = 6553600 := rfl
    omega
  unfold dutyq
  calc (clamp p 0 fullScale).toNat * c.dutyMax.toNat / 6553600
      ≤ 6553600 * c.dutyMax.toNat / 6553600 := Nat.div_le_div_right (Nat.mul_le_mul_right _ h2)
    _ = c.dutyMax.toNat := Nat.mul_div_cancel_left _ (by decide)

theorem cntMax_lt (c : Config) : cntMax c < 4294967296 := by
  have h : c.cw.val ≤ 32 := by omega
  have h2 : 2 ^ c.cw.val ≤ 2 ^ 32 := Nat.pow_le_pow_right (by decide) h
  have h3 : 0 < 2 ^ c.cw.val := Nat.pow_pos (by decide)
  unfold cntMax
  omega

end Sys2Proof.Machine
end

