-- ==== Sys2Proof/Laws/State.lean ====
section
/-! SUPPORT. One lemma per field per named update of the state, each true by rfl. -/

namespace Sys2Proof.Machine

variable (s : State)

@[simp] theorem State.raise_cfg (b : FaultBit) : (s.raise b).cfg = s.cfg := rfl
@[simp] theorem State.raise_cnt (b : FaultBit) : (s.raise b).cnt = s.cnt := rfl
@[simp] theorem State.raise_ovf (b : FaultBit) : (s.raise b).ovf = s.ovf := rfl
@[simp] theorem State.raise_integ (b : FaultBit) : (s.raise b).integ = s.integ := rfl
@[simp] theorem State.raise_meas (b : FaultBit) : (s.raise b).meas = s.meas := rfl
@[simp] theorem State.raise_out (b : FaultBit) : (s.raise b).out = s.out := rfl
@[simp] theorem State.raise_duty (b : FaultBit) : (s.raise b).duty = s.duty := rfl
@[simp] theorem State.raise_tmr (b : FaultBit) : (s.raise b).tmr = s.tmr := rfl
@[simp] theorem State.raise_run (b : FaultBit) : (s.raise b).run = s.run := rfl
@[simp] theorem State.raise_phase (b : FaultBit) : (s.raise b).phase = s.phase := rfl
@[simp] theorem State.raise_stopReq (b : FaultBit) : (s.raise b).stopReq = s.stopReq := rfl
@[simp] theorem State.raise_fault (b : FaultBit) : (s.raise b).fault = s.fault ||| faultMask b := rfl
@[simp] theorem State.raise_rc (b : FaultBit) : (s.raise b).rc = s.rc := rfl
@[simp] theorem State.raise_res (b : FaultBit) : (s.raise b).res = s.res := rfl
@[simp] theorem State.raise_res2 (b : FaultBit) : (s.raise b).res2 = s.res2 := rfl
@[simp] theorem State.raise_diag (b : FaultBit) : (s.raise b).diag = s.diag := rfl
@[simp] theorem State.raise_inputs (b : FaultBit) : (s.raise b).inputs = s.inputs := rfl
@[simp] theorem State.raise_envTime (b : FaultBit) : (s.raise b).envTime = s.envTime := rfl

@[simp] theorem State.refuse_cfg (e : RespCode) : (s.refuse e).cfg = s.cfg := rfl
@[simp] theorem State.refuse_cnt (e : RespCode) : (s.refuse e).cnt = s.cnt := rfl
@[simp] theorem State.refuse_ovf (e : RespCode) : (s.refuse e).ovf = s.ovf := rfl
@[simp] theorem State.refuse_integ (e : RespCode) : (s.refuse e).integ = s.integ := rfl
@[simp] theorem State.refuse_meas (e : RespCode) : (s.refuse e).meas = s.meas := rfl
@[simp] theorem State.refuse_out (e : RespCode) : (s.refuse e).out = s.out := rfl
@[simp] theorem State.refuse_duty (e : RespCode) : (s.refuse e).duty = s.duty := rfl
@[simp] theorem State.refuse_tmr (e : RespCode) : (s.refuse e).tmr = s.tmr := rfl
@[simp] theorem State.refuse_run (e : RespCode) : (s.refuse e).run = s.run := rfl
@[simp] theorem State.refuse_phase (e : RespCode) : (s.refuse e).phase = s.phase := rfl
@[simp] theorem State.refuse_stopReq (e : RespCode) : (s.refuse e).stopReq = s.stopReq := rfl
@[simp] theorem State.refuse_fault (e : RespCode) : (s.refuse e).fault = s.fault ||| faultMask .cmd := rfl
@[simp] theorem State.refuse_rc (e : RespCode) : (s.refuse e).rc = rcWord e := rfl
@[simp] theorem State.refuse_res (e : RespCode) : (s.refuse e).res = s.res := rfl
@[simp] theorem State.refuse_res2 (e : RespCode) : (s.refuse e).res2 = s.res2 := rfl
@[simp] theorem State.refuse_diag (e : RespCode) : (s.refuse e).diag = s.diag := rfl
@[simp] theorem State.refuse_inputs (e : RespCode) : (s.refuse e).inputs = s.inputs := rfl
@[simp] theorem State.refuse_envTime (e : RespCode) : (s.refuse e).envTime = s.envTime := rfl

@[simp] theorem State.respond_ok_cfg (r r2 : Word) : (s.respond .ok r r2).cfg = s.cfg := rfl
@[simp] theorem State.respond_ok_cnt (r r2 : Word) : (s.respond .ok r r2).cnt = s.cnt := rfl
@[simp] theorem State.respond_ok_ovf (r r2 : Word) : (s.respond .ok r r2).ovf = s.ovf := rfl
@[simp] theorem State.respond_ok_integ (r r2 : Word) : (s.respond .ok r r2).integ = s.integ := rfl
@[simp] theorem State.respond_ok_meas (r r2 : Word) : (s.respond .ok r r2).meas = s.meas := rfl
@[simp] theorem State.respond_ok_out (r r2 : Word) : (s.respond .ok r r2).out = s.out := rfl
@[simp] theorem State.respond_ok_duty (r r2 : Word) : (s.respond .ok r r2).duty = s.duty := rfl
@[simp] theorem State.respond_ok_tmr (r r2 : Word) : (s.respond .ok r r2).tmr = s.tmr := rfl
@[simp] theorem State.respond_ok_run (r r2 : Word) : (s.respond .ok r r2).run = s.run := rfl
@[simp] theorem State.respond_ok_phase (r r2 : Word) : (s.respond .ok r r2).phase = s.phase := rfl
@[simp] theorem State.respond_ok_stopReq (r r2 : Word) : (s.respond .ok r r2).stopReq = s.stopReq := rfl
@[simp] theorem State.respond_ok_fault (r r2 : Word) : (s.respond .ok r r2).fault = s.fault := rfl
@[simp] theorem State.respond_ok_rc (r r2 : Word) : (s.respond .ok r r2).rc = rcWord .ok := rfl
@[simp] theorem State.respond_ok_res (r r2 : Word) : (s.respond .ok r r2).res = r := rfl
@[simp] theorem State.respond_ok_res2 (r r2 : Word) : (s.respond .ok r r2).res2 = r2 := rfl
@[simp] theorem State.respond_ok_diag (r r2 : Word) : (s.respond .ok r r2).diag = s.diag := rfl
@[simp] theorem State.respond_ok_inputs (r r2 : Word) : (s.respond .ok r r2).inputs = s.inputs := rfl
@[simp] theorem State.respond_ok_envTime (r r2 : Word) : (s.respond .ok r r2).envTime = s.envTime := rfl

@[simp] theorem State.clearCount_cfg : (s.clearCount).cfg = s.cfg := rfl
@[simp] theorem State.clearCount_cnt : (s.clearCount).cnt = 0#32 := rfl
@[simp] theorem State.clearCount_ovf : (s.clearCount).ovf = false := rfl
@[simp] theorem State.clearCount_integ : (s.clearCount).integ = s.integ := rfl
@[simp] theorem State.clearCount_meas : (s.clearCount).meas = s.meas := rfl
@[simp] theorem State.clearCount_out : (s.clearCount).out = s.out := rfl
@[simp] theorem State.clearCount_duty : (s.clearCount).duty = s.duty := rfl
@[simp] theorem State.clearCount_tmr : (s.clearCount).tmr = s.tmr := rfl
@[simp] theorem State.clearCount_run : (s.clearCount).run = s.run := rfl
@[simp] theorem State.clearCount_phase : (s.clearCount).phase = s.phase := rfl
@[simp] theorem State.clearCount_stopReq : (s.clearCount).stopReq = s.stopReq := rfl
@[simp] theorem State.clearCount_fault : (s.clearCount).fault = s.fault := rfl
@[simp] theorem State.clearCount_rc : (s.clearCount).rc = s.rc := rfl
@[simp] theorem State.clearCount_res : (s.clearCount).res = s.res := rfl
@[simp] theorem State.clearCount_res2 : (s.clearCount).res2 = s.res2 := rfl
@[simp] theorem State.clearCount_diag : (s.clearCount).diag = s.diag := rfl
@[simp] theorem State.clearCount_inputs : (s.clearCount).inputs = s.inputs := rfl
@[simp] theorem State.clearCount_envTime : (s.clearCount).envTime = s.envTime := rfl

@[simp] theorem State.toPhase_cfg (p : BitVec 3) : (s.toPhase p).cfg = s.cfg := rfl
@[simp] theorem State.toPhase_cnt (p : BitVec 3) : (s.toPhase p).cnt = s.cnt := rfl
@[simp] theorem State.toPhase_ovf (p : BitVec 3) : (s.toPhase p).ovf = s.ovf := rfl
@[simp] theorem State.toPhase_integ (p : BitVec 3) : (s.toPhase p).integ = s.integ := rfl
@[simp] theorem State.toPhase_meas (p : BitVec 3) : (s.toPhase p).meas = s.meas := rfl
@[simp] theorem State.toPhase_out (p : BitVec 3) : (s.toPhase p).out = s.out := rfl
@[simp] theorem State.toPhase_duty (p : BitVec 3) : (s.toPhase p).duty = s.duty := rfl
@[simp] theorem State.toPhase_tmr (p : BitVec 3) : (s.toPhase p).tmr = s.tmr := rfl
@[simp] theorem State.toPhase_run (p : BitVec 3) : (s.toPhase p).run = s.run := rfl
@[simp] theorem State.toPhase_phase (p : BitVec 3) : (s.toPhase p).phase = p := rfl
@[simp] theorem State.toPhase_stopReq (p : BitVec 3) : (s.toPhase p).stopReq = s.stopReq := rfl
@[simp] theorem State.toPhase_fault (p : BitVec 3) : (s.toPhase p).fault = s.fault := rfl
@[simp] theorem State.toPhase_rc (p : BitVec 3) : (s.toPhase p).rc = s.rc := rfl
@[simp] theorem State.toPhase_res (p : BitVec 3) : (s.toPhase p).res = s.res := rfl
@[simp] theorem State.toPhase_res2 (p : BitVec 3) : (s.toPhase p).res2 = s.res2 := rfl
@[simp] theorem State.toPhase_diag (p : BitVec 3) : (s.toPhase p).diag = s.diag := rfl
@[simp] theorem State.toPhase_inputs (p : BitVec 3) : (s.toPhase p).inputs = s.inputs := rfl
@[simp] theorem State.toPhase_envTime (p : BitVec 3) : (s.toPhase p).envTime = s.envTime := rfl

@[simp] theorem State.terminate_cfg : (s.terminate).cfg = s.cfg := rfl
@[simp] theorem State.terminate_cnt : (s.terminate).cnt = s.cnt := rfl
@[simp] theorem State.terminate_ovf : (s.terminate).ovf = s.ovf := rfl
@[simp] theorem State.terminate_integ : (s.terminate).integ = s.integ := rfl
@[simp] theorem State.terminate_meas : (s.terminate).meas = s.meas := rfl
@[simp] theorem State.terminate_out : (s.terminate).out = s.out := rfl
@[simp] theorem State.terminate_duty : (s.terminate).duty = s.duty := rfl
@[simp] theorem State.terminate_tmr : (s.terminate).tmr = s.tmr := rfl
@[simp] theorem State.terminate_run : (s.terminate).run = false := rfl
@[simp] theorem State.terminate_phase : (s.terminate).phase = phWait := rfl
@[simp] theorem State.terminate_stopReq : (s.terminate).stopReq = s.stopReq := rfl
@[simp] theorem State.terminate_fault : (s.terminate).fault = s.fault := rfl
@[simp] theorem State.terminate_rc : (s.terminate).rc = s.rc := rfl
@[simp] theorem State.terminate_res : (s.terminate).res = s.res := rfl
@[simp] theorem State.terminate_res2 : (s.terminate).res2 = s.res2 := rfl
@[simp] theorem State.terminate_diag : (s.terminate).diag = s.diag := rfl
@[simp] theorem State.terminate_inputs : (s.terminate).inputs = s.inputs := rfl
@[simp] theorem State.terminate_envTime : (s.terminate).envTime = s.envTime := rfl

@[simp] theorem State.setController_cfg (i o : Word) : (s.setController i o).cfg = s.cfg := rfl
@[simp] theorem State.setController_cnt (i o : Word) : (s.setController i o).cnt = s.cnt := rfl
@[simp] theorem State.setController_ovf (i o : Word) : (s.setController i o).ovf = s.ovf := rfl
@[simp] theorem State.setController_integ (i o : Word) : (s.setController i o).integ = i := rfl
@[simp] theorem State.setController_meas (i o : Word) : (s.setController i o).meas = s.meas := rfl
@[simp] theorem State.setController_out (i o : Word) : (s.setController i o).out = o := rfl
@[simp] theorem State.setController_duty (i o : Word) : (s.setController i o).duty = s.duty := rfl
@[simp] theorem State.setController_tmr (i o : Word) : (s.setController i o).tmr = s.tmr := rfl
@[simp] theorem State.setController_run (i o : Word) : (s.setController i o).run = s.run := rfl
@[simp] theorem State.setController_phase (i o : Word) : (s.setController i o).phase = s.phase := rfl
@[simp] theorem State.setController_stopReq (i o : Word) : (s.setController i o).stopReq = s.stopReq := rfl
@[simp] theorem State.setController_fault (i o : Word) : (s.setController i o).fault = s.fault := rfl
@[simp] theorem State.setController_rc (i o : Word) : (s.setController i o).rc = s.rc := rfl
@[simp] theorem State.setController_res (i o : Word) : (s.setController i o).res = s.res := rfl
@[simp] theorem State.setController_res2 (i o : Word) : (s.setController i o).res2 = s.res2 := rfl
@[simp] theorem State.setController_diag (i o : Word) : (s.setController i o).diag = s.diag := rfl
@[simp] theorem State.setController_inputs (i o : Word) : (s.setController i o).inputs = s.inputs := rfl
@[simp] theorem State.setController_envTime (i o : Word) : (s.setController i o).envTime = s.envTime := rfl

@[simp] theorem State.setMeas_cfg (v : Word) : (s.setMeas v).cfg = s.cfg := rfl
@[simp] theorem State.setMeas_cnt (v : Word) : (s.setMeas v).cnt = s.cnt := rfl
@[simp] theorem State.setMeas_ovf (v : Word) : (s.setMeas v).ovf = s.ovf := rfl
@[simp] theorem State.setMeas_integ (v : Word) : (s.setMeas v).integ = s.integ := rfl
@[simp] theorem State.setMeas_meas (v : Word) : (s.setMeas v).meas = v := rfl
@[simp] theorem State.setMeas_out (v : Word) : (s.setMeas v).out = s.out := rfl
@[simp] theorem State.setMeas_duty (v : Word) : (s.setMeas v).duty = s.duty := rfl
@[simp] theorem State.setMeas_tmr (v : Word) : (s.setMeas v).tmr = s.tmr := rfl
@[simp] theorem State.setMeas_run (v : Word) : (s.setMeas v).run = s.run := rfl
@[simp] theorem State.setMeas_phase (v : Word) : (s.setMeas v).phase = s.phase := rfl
@[simp] theorem State.setMeas_stopReq (v : Word) : (s.setMeas v).stopReq = s.stopReq := rfl
@[simp] theorem State.setMeas_fault (v : Word) : (s.setMeas v).fault = s.fault := rfl
@[simp] theorem State.setMeas_rc (v : Word) : (s.setMeas v).rc = s.rc := rfl
@[simp] theorem State.setMeas_res (v : Word) : (s.setMeas v).res = s.res := rfl
@[simp] theorem State.setMeas_res2 (v : Word) : (s.setMeas v).res2 = s.res2 := rfl
@[simp] theorem State.setMeas_diag (v : Word) : (s.setMeas v).diag = s.diag := rfl
@[simp] theorem State.setMeas_inputs (v : Word) : (s.setMeas v).inputs = s.inputs := rfl
@[simp] theorem State.setMeas_envTime (v : Word) : (s.setMeas v).envTime = s.envTime := rfl

@[simp] theorem State.setDuty_cfg (d : Word) : (s.setDuty d).cfg = s.cfg := rfl
@[simp] theorem State.setDuty_cnt (d : Word) : (s.setDuty d).cnt = s.cnt := rfl
@[simp] theorem State.setDuty_ovf (d : Word) : (s.setDuty d).ovf = s.ovf := rfl
@[simp] theorem State.setDuty_integ (d : Word) : (s.setDuty d).integ = s.integ := rfl
@[simp] theorem State.setDuty_meas (d : Word) : (s.setDuty d).meas = s.meas := rfl
@[simp] theorem State.setDuty_out (d : Word) : (s.setDuty d).out = s.out := rfl
@[simp] theorem State.setDuty_duty (d : Word) : (s.setDuty d).duty = d := rfl
@[simp] theorem State.setDuty_tmr (d : Word) : (s.setDuty d).tmr = s.tmr := rfl
@[simp] theorem State.setDuty_run (d : Word) : (s.setDuty d).run = s.run := rfl
@[simp] theorem State.setDuty_phase (d : Word) : (s.setDuty d).phase = s.phase := rfl
@[simp] theorem State.setDuty_stopReq (d : Word) : (s.setDuty d).stopReq = s.stopReq := rfl
@[simp] theorem State.setDuty_fault (d : Word) : (s.setDuty d).fault = s.fault := rfl
@[simp] theorem State.setDuty_rc (d : Word) : (s.setDuty d).rc = s.rc := rfl
@[simp] theorem State.setDuty_res (d : Word) : (s.setDuty d).res = s.res := rfl
@[simp] theorem State.setDuty_res2 (d : Word) : (s.setDuty d).res2 = s.res2 := rfl
@[simp] theorem State.setDuty_diag (d : Word) : (s.setDuty d).diag = s.diag := rfl
@[simp] theorem State.setDuty_inputs (d : Word) : (s.setDuty d).inputs = s.inputs := rfl
@[simp] theorem State.setDuty_envTime (d : Word) : (s.setDuty d).envTime = s.envTime := rfl

@[simp] theorem State.setTmr_cfg (t : Word) : (s.setTmr t).cfg = s.cfg := rfl
@[simp] theorem State.setTmr_cnt (t : Word) : (s.setTmr t).cnt = s.cnt := rfl
@[simp] theorem State.setTmr_ovf (t : Word) : (s.setTmr t).ovf = s.ovf := rfl
@[simp] theorem State.setTmr_integ (t : Word) : (s.setTmr t).integ = s.integ := rfl
@[simp] theorem State.setTmr_meas (t : Word) : (s.setTmr t).meas = s.meas := rfl
@[simp] theorem State.setTmr_out (t : Word) : (s.setTmr t).out = s.out := rfl
@[simp] theorem State.setTmr_duty (t : Word) : (s.setTmr t).duty = s.duty := rfl
@[simp] theorem State.setTmr_tmr (t : Word) : (s.setTmr t).tmr = t := rfl
@[simp] theorem State.setTmr_run (t : Word) : (s.setTmr t).run = s.run := rfl
@[simp] theorem State.setTmr_phase (t : Word) : (s.setTmr t).phase = s.phase := rfl
@[simp] theorem State.setTmr_stopReq (t : Word) : (s.setTmr t).stopReq = s.stopReq := rfl
@[simp] theorem State.setTmr_fault (t : Word) : (s.setTmr t).fault = s.fault := rfl
@[simp] theorem State.setTmr_rc (t : Word) : (s.setTmr t).rc = s.rc := rfl
@[simp] theorem State.setTmr_res (t : Word) : (s.setTmr t).res = s.res := rfl
@[simp] theorem State.setTmr_res2 (t : Word) : (s.setTmr t).res2 = s.res2 := rfl
@[simp] theorem State.setTmr_diag (t : Word) : (s.setTmr t).diag = s.diag := rfl
@[simp] theorem State.setTmr_inputs (t : Word) : (s.setTmr t).inputs = s.inputs := rfl
@[simp] theorem State.setTmr_envTime (t : Word) : (s.setTmr t).envTime = s.envTime := rfl

@[simp] theorem State.requestStop_cfg : (s.requestStop).cfg = s.cfg := rfl
@[simp] theorem State.requestStop_cnt : (s.requestStop).cnt = s.cnt := rfl
@[simp] theorem State.requestStop_ovf : (s.requestStop).ovf = s.ovf := rfl
@[simp] theorem State.requestStop_integ : (s.requestStop).integ = s.integ := rfl
@[simp] theorem State.requestStop_meas : (s.requestStop).meas = s.meas := rfl
@[simp] theorem State.requestStop_out : (s.requestStop).out = s.out := rfl
@[simp] theorem State.requestStop_duty : (s.requestStop).duty = s.duty := rfl
@[simp] theorem State.requestStop_tmr : (s.requestStop).tmr = s.tmr := rfl
@[simp] theorem State.requestStop_run : (s.requestStop).run = s.run := rfl
@[simp] theorem State.requestStop_phase : (s.requestStop).phase = s.phase := rfl
@[simp] theorem State.requestStop_stopReq : (s.requestStop).stopReq = true := rfl
@[simp] theorem State.requestStop_fault : (s.requestStop).fault = s.fault := rfl
@[simp] theorem State.requestStop_rc : (s.requestStop).rc = s.rc := rfl
@[simp] theorem State.requestStop_res : (s.requestStop).res = s.res := rfl
@[simp] theorem State.requestStop_res2 : (s.requestStop).res2 = s.res2 := rfl
@[simp] theorem State.requestStop_diag : (s.requestStop).diag = s.diag := rfl
@[simp] theorem State.requestStop_inputs : (s.requestStop).inputs = s.inputs := rfl
@[simp] theorem State.requestStop_envTime : (s.requestStop).envTime = s.envTime := rfl

@[simp] theorem State.stop_cfg : (s.stop).cfg = s.cfg := rfl
@[simp] theorem State.stop_cnt : (s.stop).cnt = s.cnt := rfl
@[simp] theorem State.stop_ovf : (s.stop).ovf = s.ovf := rfl
@[simp] theorem State.stop_integ : (s.stop).integ = s.integ := rfl
@[simp] theorem State.stop_meas : (s.stop).meas = s.meas := rfl
@[simp] theorem State.stop_out : (s.stop).out = s.out := rfl
@[simp] theorem State.stop_duty : (s.stop).duty = s.duty := rfl
@[simp] theorem State.stop_tmr : (s.stop).tmr = s.tmr := rfl
@[simp] theorem State.stop_run : (s.stop).run = false := rfl
@[simp] theorem State.stop_phase : (s.stop).phase = s.phase := rfl
@[simp] theorem State.stop_stopReq : (s.stop).stopReq = s.stopReq := rfl
@[simp] theorem State.stop_fault : (s.stop).fault = s.fault := rfl
@[simp] theorem State.stop_rc : (s.stop).rc = s.rc := rfl
@[simp] theorem State.stop_res : (s.stop).res = s.res := rfl
@[simp] theorem State.stop_res2 : (s.stop).res2 = s.res2 := rfl
@[simp] theorem State.stop_diag : (s.stop).diag = s.diag := rfl
@[simp] theorem State.stop_inputs : (s.stop).inputs = s.inputs := rfl
@[simp] theorem State.stop_envTime : (s.stop).envTime = s.envTime := rfl

@[simp] theorem State.emitDiag_cfg : (s.emitDiag).cfg = s.cfg := rfl
@[simp] theorem State.emitDiag_cnt : (s.emitDiag).cnt = s.cnt := rfl
@[simp] theorem State.emitDiag_ovf : (s.emitDiag).ovf = s.ovf := rfl
@[simp] theorem State.emitDiag_integ : (s.emitDiag).integ = s.integ := rfl
@[simp] theorem State.emitDiag_meas : (s.emitDiag).meas = s.meas := rfl
@[simp] theorem State.emitDiag_out : (s.emitDiag).out = s.out := rfl
@[simp] theorem State.emitDiag_duty : (s.emitDiag).duty = s.duty := rfl
@[simp] theorem State.emitDiag_tmr : (s.emitDiag).tmr = s.tmr := rfl
@[simp] theorem State.emitDiag_run : (s.emitDiag).run = s.run := rfl
@[simp] theorem State.emitDiag_phase : (s.emitDiag).phase = s.phase := rfl
@[simp] theorem State.emitDiag_stopReq : (s.emitDiag).stopReq = s.stopReq := rfl
@[simp] theorem State.emitDiag_fault : (s.emitDiag).fault = s.fault := rfl
@[simp] theorem State.emitDiag_rc : (s.emitDiag).rc = s.rc := rfl
@[simp] theorem State.emitDiag_res : (s.emitDiag).res = s.res := rfl
@[simp] theorem State.emitDiag_res2 : (s.emitDiag).res2 = s.res2 := rfl
@[simp] theorem State.emitDiag_diag : (s.emitDiag).diag = s.diag ++ [(s.meas, s.out)] := rfl
@[simp] theorem State.emitDiag_inputs : (s.emitDiag).inputs = s.inputs := rfl
@[simp] theorem State.emitDiag_envTime : (s.emitDiag).envTime = s.envTime := rfl

@[simp] theorem State.doReset_cfg : (s.doReset).cfg = s.cfg := rfl
@[simp] theorem State.doReset_cnt : (s.doReset).cnt = 0#32 := rfl
@[simp] theorem State.doReset_ovf : (s.doReset).ovf = false := rfl
@[simp] theorem State.doReset_integ : (s.doReset).integ = 0#32 := rfl
@[simp] theorem State.doReset_meas : (s.doReset).meas = 0#32 := rfl
@[simp] theorem State.doReset_out : (s.doReset).out = 0#32 := rfl
@[simp] theorem State.doReset_duty : (s.doReset).duty = 0#32 := rfl
@[simp] theorem State.doReset_tmr : (s.doReset).tmr = s.cfg.intervalMs := rfl
@[simp] theorem State.doReset_run : (s.doReset).run = cfgValid s.cfg := rfl
@[simp] theorem State.doReset_phase : (s.doReset).phase = 0#3 := rfl
@[simp] theorem State.doReset_stopReq : (s.doReset).stopReq = false := rfl
@[simp] theorem State.doReset_fault : (s.doReset).fault = if cfgValid s.cfg then 0#4 else 1#4 := rfl
@[simp] theorem State.doReset_rc : (s.doReset).rc = 0#3 := rfl
@[simp] theorem State.doReset_res : (s.doReset).res = 0#32 := rfl
@[simp] theorem State.doReset_res2 : (s.doReset).res2 = 0#32 := rfl
@[simp] theorem State.doReset_diag : (s.doReset).diag = [] := rfl
@[simp] theorem State.doReset_inputs : (s.doReset).inputs = s.inputs := rfl
@[simp] theorem State.doReset_envTime : (s.doReset).envTime = s.envTime := rfl

end Sys2Proof.Machine
end

