-- ==== Sys2Proof/Laws/Ops.lean ====
section
/-! SUPPORT. What each shared operation over the registers does, said once. -/

namespace Sys2Proof.Machine

/-- A refused command changes `RC` and `FAULT` only. -/
theorem State.refuse_eq (e : RespCode) (s : State) :
    s.refuse e = { s with rc := rcWord e, fault := s.fault ||| 8#4 } := rfl

/-- A command answered `OK` changes the three latches only. -/
theorem State.respond_ok_eq (r r2 : Word) (s : State) :
    s.respond .ok r r2 = { s with rc := 0#3, res := r, res2 := r2 } := rfl

theorem rcWord_le (e : RespCode) : (rcWord e).toNat ≤ 5 := by cases e <;> decide

/-- An edge is counted, or flagged when the counter is full; nothing else changes. -/
theorem State.countEdge_cases (s : State) :
    (s.cnt.toNat < cntMax s.cfg ∧ s.countEdge = { s with cnt := s.cnt + 1#32 } ∧
      (s.cnt + 1#32).toNat = s.cnt.toNat + 1) ∨
    (cntMax s.cfg ≤ s.cnt.toNat ∧ s.countEdge = { s with ovf := true }) := by
  by_cases h : cntMax s.cfg ≤ s.cnt.toNat
  · exact .inr ⟨h, if_pos h⟩
  · have hm := cntMax_lt s.cfg
    refine .inl ⟨by omega, if_neg h, ?_⟩
    rw [BitVec.toNat_add]
    have : (1#32).toNat = 1 := rfl
    omega

/-- The words a controller step stores are the exact values of `pi_step`. -/
theorem State.piWords_toInt (s : State) (t m : Word) (h : s.cfg.imin.toInt ≤ s.cfg.imax.toInt) :
    (s.piWords t m).1.toInt = (piStep s.cfg s.integ.toInt t.toInt m.toInt).1 ∧
      (s.piWords t m).2.toInt = (piStep s.cfg s.integ.toInt t.toInt m.toInt).2 := by
  have hb := piStep_bounds s.cfg s.integ.toInt t.toInt m.toInt h
  have h1 := BitVec.le_toInt s.cfg.imin
  have h2 := BitVec.toInt_lt (x := s.cfg.imax)
  exact ⟨word32_toInt _ (by omega) (by omega), word32_toInt _ (by omega) (by omega)⟩

/-- The duty word is the exact value of `dutyq`. -/
theorem State.dutyWord_toNat (s : State) (p : Word) : (s.dutyWord p).toNat = dutyq s.cfg p.toInt :=
  zext32_toNat _ (Nat.lt_of_le_of_lt (dutyq_le s.cfg p.toInt) s.cfg.dutyMax.isLt)

end Sys2Proof.Machine
end

