-- ==== Sys2Proof/Laws/PerInstr.lean ====
section
/-! SUPPORT. Statements made per operation: the encoding of an operation has the bits its row of
spec/opcode_table.json fixes. -/

namespace Sys2Proof.Laws.TableForm

/-- The encoding of a well-formed operation, under its row's mask, is its row's pattern. -/
def Statement (i : Instr) : Prop :=
  i.wf = true → (encode i).tableBits &&& (tableRow i).mask = (tableRow i).pattern

theorem nop : Statement .nop := fun _ => by decide
theorem tofix (a : Word) : Statement (.tofix a) := fun _ => (by decide : (formatO 1).toNat &&& 0xFF = 1)
theorem fromfix (a : Word) : Statement (.fromfix a) := fun _ => (by decide : (formatO 2).toNat &&& 0xFF = 2)
theorem mul (a b : Word) : Statement (.mul a b) := fun _ => (by decide : (formatO 3).toNat &&& 0xFF = 3)
theorem clamp (a b c : Word) : Statement (.clamp a b c) := fun _ => (by decide : (formatO 4).toNat &&& 0xFF = 4)
theorem vel (a b : Word) : Statement (.vel a b) := fun _ => (by decide : (formatO 5).toNat &&& 0xFF = 5)
theorem rdclr : Statement .rdclr := fun _ => by decide
theorem pistep (a b : Word) : Statement (.pistep a b) := fun _ => (by decide : (formatO 7).toNat &&& 0xFF = 7)
theorem apply (a : Word) : Statement (.apply a) := fun _ => (by decide : (formatO 8).toNat &&& 0xFF = 8)
theorem cancel : Statement .cancel := fun _ => by decide
theorem rdreg (rn : BitVec 4) : Statement (.rdreg rn) := by
  unfold Statement
  revert rn
  decide
theorem uWait : Statement .uWait := fun _ => by decide
theorem uSample : Statement .uSample := fun _ => by decide
theorem uPi : Statement .uPi := fun _ => by decide
theorem uApply : Statement .uApply := fun _ => by decide
theorem uDiag : Statement .uDiag := fun _ => by decide

end Sys2Proof.Laws.TableForm
end

