-- ==== Sys2Proof/Laws/Step.lean ====
section
/-! SUPPORT. What a step can do, said once. -/

namespace Sys2Proof.Machine

variable {s s' t : State} {a : AgentStep} {rest : List AgentStep}

theorem State.nextInput_of_cons (h : s.inputs = a :: rest) :
    s.nextInput = (a, { s with inputs := rest }) := by
  simp [State.nextInput, h]

theorem State.nextInput_of_nil (h : s.inputs = []) :
    s.nextInput = (Config.environment s.envTime, { s with envTime := s.envTime + 1 }) := by
  simp [State.nextInput, h]

/-- Taking the next input changes the model's own fields only. -/
theorem State.nextInput_snd (s : State) :
    s.nextInput.2 = { s with inputs := s.nextInput.2.inputs, envTime := s.nextInput.2.envTime } := by
  unfold State.nextInput
  split <;> rfl

/-- A step that answers a next state is a reset, or the task of an agent step in a legal phase. -/
theorem perform_next (h : perform a s = .next t) :
    (a = .reset ∧ t = s.doReset) ∨ (a ≠ .reset ∧ s.phase.toNat ≤ 4 ∧ runTask (select a s) s = .next t) := by
  unfold perform at h
  split at h
  · cases h
  · rename_i hp
    by_cases hr : a = .reset
    · subst hr
      left
      simpa [select, runTask, eq_comm] using h
    · exact .inr ⟨hr, by by_contra hc; exact hp ⟨by omega, hr⟩, h⟩

/-- What `uWAIT` answers. -/
theorem execUWait_next (h : execUWait s = .next t) :
    s.tmr ≠ 0#32 ∧
      ((s.tmr - 1#32 = 0#32 ∧ t = (s.setTmr (s.tmr - 1#32)).toPhase phSample) ∨
        (s.tmr - 1#32 ≠ 0#32 ∧ t = s.setTmr (s.tmr - 1#32))) := by
  unfold execUWait at h
  split at h
  · cases h
  · split at h <;> cases h <;> simp_all

/-- What `uSAMPLE` answers. -/
theorem execUSample_next (h : execUSample s = .next t) :
    s.cfg.intervalMs ≠ 0#32 ∧
      ((velq s.cnt.toNat s.cfg.intervalMs.toNat ≤ 2147483647 ∧
          t = { s with
            cnt := 0#32
            ovf := false
            fault := if s.ovf then s.fault ||| 4#4 else s.fault
            meas := zext32 (velq s.cnt.toNat s.cfg.intervalMs.toNat)
            phase := phPi }) ∨
        (2147483647 < velq s.cnt.toNat s.cfg.intervalMs.toNat ∧
          t = { s with
            cnt := 0#32
            ovf := false
            fault := (if s.ovf then s.fault ||| 4#4 else s.fault) ||| 2#4
            run := false
            phase := phWait })) := by
  unfold execUSample at h
  split at h
  · cases h
  · rename_i hi
    refine ⟨hi, ?_⟩
    injection h with h
    subst h
    by_cases hv : velq s.cnt.toNat s.cfg.intervalMs.toNat ≤ 2147483647
    · refine .inl ⟨hv, ?_⟩
      cases ho : s.ovf <;>
        simp [velFits, State.count, hv, ho, State.clearCount, State.raise, State.setMeas, State.toPhase, faultMask]
    · refine .inr ⟨by omega, ?_⟩
      cases ho : s.ovf <;>
        simp [velFits, State.count, hv, ho, State.clearCount, State.raise, State.terminate, faultMask]

/-- What `uPI` answers. -/
theorem execUPi_next (h : execUPi s = .next t) :
    s.cfg.imin.toInt ≤ s.cfg.imax.toInt ∧
      t = (s.setController (s.piWords s.cfg.target s.meas).1 (s.piWords s.cfg.target s.meas).2).toPhase phApply := by
  unfold execUPi at h
  split at h
  · rename_i hb
    injection h with h
    exact ⟨(boundsOrdered_iff _).1 hb, h.symm⟩
  · cases h

/-- What `uDIAG` answers. -/
theorem execUDiag_eq (s : State) :
    execUDiag s = .next { s with
      diag := if s.cfg.diagEn then s.diag ++ [(s.meas, s.out)] else s.diag
      tmr := s.cfg.intervalMs
      phase := phWait
      run := s.run && !s.stopReq } := by
  unfold execUDiag
  cases hd : s.cfg.diagEn <;> cases hs : s.stopReq <;>
    simp [State.emitDiag, State.setTmr, State.toPhase, State.stop, hs]

/-- What `CANCEL` answers. -/
theorem execCancel_eq (s : State) :
    execCancel s = .next { s with
      stopReq := true
      run := s.run && !decide (s.phase = phWait)
      rc := 0#3
      res := 0#32
      res2 := 0#32 } := by
  unfold execCancel State.waiting
  cases hr : s.run <;> by_cases hp : s.phase = phWait <;>
    simp [State.requestStop, State.stop, State.respond, rcWord, hr, hp]

/-- What a `RESET` answers. -/
theorem perform_reset_next (h : perform .reset s = .next t) : t = s.doReset := by
  rcases perform_next h with ⟨_, h⟩ | ⟨h, _⟩
  · exact h
  · exact absurd rfl h

/-- What an `EDGE` answers. -/
theorem perform_edge_next (h : perform .edge s = .next t) :
    s.phase.toNat ≤ 4 ∧
      ((s.cnt.toNat < cntMax s.cfg ∧ t = { s with cnt := s.cnt + 1#32 } ∧
          (s.cnt + 1#32).toNat = s.cnt.toNat + 1) ∨
        (cntMax s.cfg ≤ s.cnt.toNat ∧ t = { s with ovf := true })) := by
  rcases perform_next h with ⟨h, _⟩ | ⟨_, hp, hr⟩
  · cases h
  · simp only [select, runTask] at hr
    cases hr
    exact ⟨hp, s.countEdge_cases⟩

/-- What a `TICK` answers: the countdown in a running wait, and nothing elsewhere. -/
theorem perform_tick_next (h : perform .tick s = .next t) :
    s.phase.toNat ≤ 4 ∧
      ((s.run = true ∧ s.phase = 0#3 ∧ execUWait s = .next t) ∨ (¬ (s.run = true ∧ s.phase = 0#3) ∧ t = s)) := by
  rcases perform_next h with ⟨h, _⟩ | ⟨_, hp, hr⟩
  · cases h
  · refine ⟨hp, ?_⟩
    simp only [select] at hr
    split at hr <;> rename_i hw <;> simp [State.waiting] at hw
    · exact .inl ⟨hw.1, hw.2, hr⟩
    · cases hr
      exact .inr ⟨fun hc => hw hc.1 hc.2, rfl⟩

/-- The legal phases. -/
theorem phase_cases (p : BitVec 3) (h : p.toNat ≤ 4) : p = 0#3 ∨ p = 1#3 ∨ p = 2#3 ∨ p = 3#3 ∨ p = 4#3 := by
  revert p
  decide

/-- What a sequencer step answers: the micro-operation of the phase, or nothing where it is not enabled. -/
theorem perform_seq_next (h : perform .seq s = .next t) :
    s.phase.toNat ≤ 4 ∧
      ((s.run = true ∧ s.phase = 1#3 ∧ execUSample s = .next t) ∨
        (s.run = true ∧ s.phase = 2#3 ∧ execUPi s = .next t) ∨
        (s.run = true ∧ s.phase = 3#3 ∧ execUApply s = .next t) ∨
        (s.run = true ∧ s.phase = 4#3 ∧ execUDiag s = .next t) ∨
        ((s.run = false ∨ s.phase = 0#3) ∧ t = s)) := by
  rcases perform_next h with ⟨h, _⟩ | ⟨_, hp, hr⟩
  · cases h
  · refine ⟨hp, ?_⟩
    simp only [select] at hr
    cases hrun : s.run
    · simp [State.seqEnabled, hrun, runTask] at hr
      simp [hr]
    · rcases phase_cases _ hp with h0 | h0 | h0 | h0 | h0 <;>
        simp [State.seqEnabled, hrun, h0, runTask, decodePhase, exec] at hr <;>
        first | (simp [h0, hr]; done) | (subst hr; simp [h0])

@[simp] theorem steps_zero (s : State) : steps 0 s = .next s := rfl

/-- A run takes one step and goes on from there. -/
theorem steps_succ (k : Nat) (h : step s = .next t) : steps (k + 1) s = steps k t := by
  have hc : Sys2Proof.core.step s = .next t := h
  simp only [steps, Host.Core.run, hc]
  rfl

/-- A run that comes to a state goes on from there. -/
theorem steps_trans (j k : Nat) (h : steps j s = .next t) : steps (j + k) s = steps k t := by
  induction j generalizing s with
  | zero => cases h; simp
  | succ j ih =>
    rw [show j + 1 + k = (j + k) + 1 by omega]
    cases hs : step s with
    | next u =>
      rw [steps_succ j hs] at h
      rw [steps_succ (j + k) hs]
      exact ih h
    | fault r =>
      have hc : Sys2Proof.core.step s = .fault r := hs
      simp only [steps, Host.Core.run, hc] at h
      cases h
    | refused r =>
      have hc : Sys2Proof.core.step s = .refused r := hs
      simp only [steps, Host.Core.run, hc] at h
      cases h

end Sys2Proof.Machine
end

