-- ==== Sys2Proof/Tests/Slice0.lean ====
section
/-! SUPPORT. The model's own tests. Expected values are those of spec/95_test_vectors.md (L2-1 to L2-12 and the
programs P3 to P7) and of 30_encoding.md; a `witness` theorem shows a state and operands that meet the hypotheses of
the obligation it names, each clause at a boundary of its range. -/

namespace Sys2Proof.Machine

/-! ### Helpers -/

/-- The next state, if there is one. -/
def answer : Result → Option State
  | .next t => some t
  | .fault _ => none
  | .refused _ => none

/-- Configuration S, terminated. -/
def stopped : State := { State.resetWith Config.scenario with run := false }

/-- Configuration S, running, in a phase, with 50 edges counted. -/
def running (p : BitVec 3) (tmr : Word) (stop : Bool) (l : List AgentStep) : State :=
  { State.resetWith Config.scenario with phase := p, tmr := tmr, cnt := 50#32, stopReq := stop, inputs := l }

/-- Configuration S with its bounds swapped (P7b). -/
def swapped : Config := { Config.scenario with imin := 0x00640000#32, imax := 0xFF9C0000#32 }

/-- Configuration S with a counter of 4 bits and an interval of 1000 (P4). -/
def narrow : Config := { Config.scenario with cw := 4, intervalMs := 1000#32 }

/-- The response latches and `FAULT`. -/
def latches (t : State) : BitVec 3 × Word × Word × BitVec 4 := (t.rc, t.res, t.res2, t.fault)

/-- The running states of these tests meet the invariants. -/
theorem running_inv (p : BitVec 3) (tmr : Word) (stop : Bool) (l : List AgentStep) (hp : p.toNat ≤ 4)
    (h0 : p = 0#3 → 1 ≤ tmr.toNat) (hb : tmr.toNat ≤ 100) (hs : stop = true → p ≠ 0#3) :
    Inv (running p tmr stop l) where
  cwPositive := (by decide : Config.scenario.wf = true)
  phaseLegal := hp
  stoppedInWait := fun h => absurd h (by decide : ¬ State.reset.run = false)
  runningValid := fun _ => (by decide : cfgValid Config.scenario = true)
  faultCfg := (by decide : State.reset.fault.getLsbD 0 = !cfgValid Config.scenario)
  numStops := fun h => absurd h (by decide : ¬ State.reset.fault.getLsbD 1 = true)
  timerLive := fun _ h => h0 h
  timerBound := hb
  stopPending := fun _ h => hs h
  integBound := .inl rfl
  outBound := (by decide : 0 ≤ (0#32).toInt ∧ (0#32).toInt ≤ 6553600)
  dutyBound := Nat.zero_le _
  measBound := (by decide : 0 ≤ (0#32).toInt)
  countBound := (by decide : (50#32).toNat ≤ cntMax Config.scenario)
  overflowFull := fun h => absurd h (by decide : ¬ false = true)
  codeLegal := Nat.zero_le _

/-! ### Well-formedness: an ill-formed term for each check -/

theorem test_wf_refuses_register_14 : (Instr.rdreg 14#4).wf = false := by decide
theorem test_wf_refuses_register_15 : (Instr.rdreg 15#4).wf = false := by decide
theorem test_wf_takes_register_13 : (Instr.rdreg 13#4).wf = true := by decide
theorem test_wf_refuses_counter_width_0 : ({ Config.scenario with cw := 0 } : Config).wf = false := by decide
theorem test_wf_takes_counter_width_1 : ({ Config.scenario with cw := 1 } : Config).wf = true := by decide

/-! ### Decoding: words written out from 30_encoding.md R83 and R87, by family -/

theorem test_decode_numeric :
    decodeTableWord 8 0b00000001 = some (.tofix 0) ∧ decodeTableWord 8 0b00000010 = some (.fromfix 0) ∧
    decodeTableWord 8 0b00000011 = some (.mul 0 0) ∧ decodeTableWord 8 0b00000100 = some (.clamp 0 0 0) := by decide
theorem test_decode_units :
    decodeTableWord 8 0b00000101 = some (.vel 0 0) ∧ decodeTableWord 8 0b00000110 = some .rdclr ∧
    decodeTableWord 8 0b00000111 = some (.pistep 0 0) ∧ decodeTableWord 8 0b00001000 = some (.apply 0) := by decide
theorem test_decode_observation :
    decodeTableWord 8 0b00000000 = some .nop ∧ decodeTableWord 8 0b00001001 = some .cancel ∧
    decodeTableWord 8 0b00001010 = some (.rdreg 0) ∧ decodeTableWord 8 0b11011010 = some (.rdreg 13) := by decide
theorem test_decode_phases :
    decodeTableWord 3 0b000 = some .uWait ∧ decodeTableWord 3 0b001 = some .uSample ∧
    decodeTableWord 3 0b010 = some .uPi ∧ decodeTableWord 3 0b011 = some .uApply ∧
    decodeTableWord 3 0b100 = some .uDiag := by decide
theorem test_decode_operands :
    decodeCommand ⟨0x04#8, 1, 2, 3⟩ = .ok (.clamp 1 2 3) ∧ decodeCommand ⟨0x03#8, 1, 2, 3⟩ = .ok (.mul 1 2) ∧
    decodeCommand ⟨0x08#8, 1, 2, 3⟩ = .ok (.apply 1) ∧ decodeCommand ⟨0x05#8, 1, 2, 3⟩ = .ok (.vel 1 2) ∧
    decodeCommand ⟨0x07#8, 1, 2, 3⟩ = .ok (.pistep 1 2) := by decide
/-- L2-10. -/
theorem test_decode_rejects :
    decodeCommand ⟨0x0B#8, 0, 0, 0⟩ = .error .reservedOp ∧ decodeCommand ⟨0x7C#8, 0, 0, 0⟩ = .error .reservedOp ∧
    decodeCommand ⟨0x13#8, 0, 0, 0⟩ = .error .nonzeroRn ∧ decodeCommand ⟨0xF9#8, 0, 0, 0⟩ = .error .nonzeroRn ∧
    decodeCommand ⟨0xEA#8, 0, 0, 0⟩ = .error .reservedRegister ∧
    decodeCommand ⟨0xFA#8, 0, 0, 0⟩ = .error .reservedRegister ∧
    decodePhase 5#3 = .error .reservedPhase ∧ decodePhase 7#3 = .error .reservedPhase := by decide

/-! ### The assembler (30_encoding.md R90, R91) -/

theorem test_assembler_commands :
    assembleLine "MUL 0x00018000, q(-0.1) ; half".toList = some [.command ⟨0x03#8, 0x00018000#32, 0xFFFFE666#32, 0#32⟩] ∧
    assembleLine "TOFIX -3".toList = some [.command ⟨0x01#8, 0xFFFFFFFD#32, 0#32, 0#32⟩] ∧
    assembleLine "RDREG INTEG".toList = some [.command ⟨0x9A#8, 0#32, 0#32, 0#32⟩] ∧
    assembleLine "RDFAULT".toList = some [.command ⟨0x1A#8, 0#32, 0#32, 0#32⟩] ∧
    assembleLine "MUL 1".toList = none := by decide
theorem test_assembler_events :
    assembleLine "EDGE * 3".toList = some [.edge, .edge, .edge] ∧ assembleLine "TICK".toList = some [.tick] ∧
    assembleLine "SEQ".toList = some [.seq] ∧ assembleLine "; nothing".toList = some [] := by decide

/-! ### Commands -/

/-- L2-1. -/
theorem test_tofix : (answer (exec (.tofix 0xFFFF8000#32) stopped)).map latches = some (0#3, 0x80000000#32, 0#32, 0#4) ∧
    (answer (exec (.tofix 0x00008000#32) stopped)).map latches = some (3#3, 0#32, 0#32, 8#4) := by decide
/-- L2-2: a negative word has a non-negative fraction. -/
theorem test_fromfix : (answer (exec (.fromfix 0xFFFE4000#32) stopped)).map latches =
    some (0#3, 0xFFFFFFFE#32, 0x00004000#32, 0#4) := by decide
/-- L2-3: truncation toward negative infinity. -/
theorem test_mul_floor : (answer (exec (.mul 0xFFFFFF01#32 0x00000100#32) stopped)).map latches =
    some (0#3, 0xFFFFFFFF#32, 0#32, 0#4) := by decide
/-- L2-3: the last row that fits and the first that does not. -/
theorem test_mul_range :
    (answer (exec (.mul 0x80000000#32 0xFFFF0001#32) stopped)).map latches = some (0#3, 0x7FFF8000#32, 0#32, 0#4) ∧
    (answer (exec (.mul 0x80000000#32 0xFFFF0000#32) stopped)).map latches = some (3#3, 0#32, 0#32, 8#4) := by decide
/-- L2-4: the comparison is signed; bounds out of order are refused. -/
theorem test_clamp :
    (answer (exec (.clamp 0x80000000#32 0#32 0x7FFFFFFF#32) stopped)).map latches = some (0#3, 0#32, 0#32, 0#4) ∧
    (answer (exec (.clamp 0x00780000#32 0#32 0x00640000#32) stopped)).map latches = some (0#3, 0x00640000#32, 0#32, 0#4) ∧
    (answer (exec (.clamp 5#32 0x00640000#32 0xFF9C0000#32) stopped)).map latches = some (4#3, 0#32, 0#32, 8#4) := by
  decide
/-- L2-5. -/
theorem test_vel :
    (answer (exec (.vel 7#32 3#32) stopped)).map latches = some (0#3, 0x091D5555#32, 0#32, 0#4) ∧
    (answer (exec (.vel 32768#32 1000#32) stopped)).map latches = some (3#3, 0#32, 0#32, 8#4) ∧
    (answer (exec (.vel 0xFFFFFFFF#32 0#32) stopped)).map latches = some (5#3, 0#32, 0#32, 8#4) := by decide
/-- L2-6: a saturated count is returned with its flag, and no sticky bit is set. -/
theorem test_rdclr : (answer (exec .rdclr { stopped with cnt := 0xFFFFFFFF#32, ovf := true })).map
    (fun t => (latches t, t.cnt, t.ovf)) = some ((0#3, 0xFFFFFFFF#32, 1#32, 0#4), 0#32, false) := by decide
/-- L2-6. -/
theorem test_rdclr_busy : (answer (exec .rdclr (running 0 100 false []))).map (fun t => (latches t, t.cnt)) =
    some ((2#3, 0#32, 0#32, 8#4), 50#32) := by decide
/-- L2-7, V-PI-16. -/
theorem test_pistep : (answer (exec (.pistep 0x00640000#32 0x00640001#32) { stopped with integ := 0x00320000#32 })).map
    (fun t => (latches t, t.integ, t.out, t.duty)) =
    some ((0#3, 0x0031FFFE#32, 0x0031FFFF#32, 0#4), 0x0031FFFF#32, 0x0031FFFE#32, 0#32) := by decide
/-- L2-7, V-PI-11: both products outside 32 bits. -/
theorem test_pistep_wide : (answer (exec (.pistep 0x4E200000#32 0#32)
    { stopped with cfg := { Config.scenario with kp := 0xFFFE0000#32, ki := 0x00020000#32 } })).map latches =
    some (0#3, 0#32, 0x00640000#32, 0#4) := by decide
/-- L2-8. -/
theorem test_apply : (answer (exec (.apply 0x00320000#32) stopped)).map (fun t => (t.duty, t.res)) =
      some (32767#32, 0x00007FFF#32) ∧
    (answer (exec (.apply 0xFFFF0000#32) stopped)).map (fun t => t.duty) = some 0#32 ∧
    (answer (exec (.apply 0x00000065#32) stopped)).map (fun t => t.duty) = some 1#32 := by decide
/-- L2-9. -/
theorem test_cancel :
    (answer (exec .cancel (running 0 37 false []))).map (fun t => (t.run, t.tmr, t.stopReq)) = some (false, 37#32, true) ∧
    (answer (exec .cancel (running 2 0 false []))).map (fun t => (t.run, t.phase, t.stopReq)) = some (true, 2#3, true) := by
  decide
/-- L2-9. -/
theorem test_rdreg :
    (answer (exec (.rdreg 0#4) State.reset)).map latches = some (0#3, 0x00000021#32, 0#32, 0#4) ∧
    (answer (exec (.rdreg 13#4) State.reset)).map latches = some (0#3, 0x00000064#32, 0#32, 0#4) ∧
    (answer (exec (.rdreg 14#4) State.reset)).map latches = some (1#3, 0#32, 0#32, 8#4) := by decide
/-- L2-9: `STATUS` in `APPLY` with a pending cancellation. -/
theorem test_status : (running 3 0 true []).statusWord = 0x00000037#32 := by decide
/-- L2-9. -/
theorem test_nop : (answer (exec .nop { stopped with res := 0x00070000#32 })).map latches = some (0#3, 0#32, 0#32, 0#4) := by
  decide

/-! ### Micro-operations and events -/

/-- L2-11. -/
theorem test_tick :
    (answer (step (running 0 100 false [.tick]))).map (fun t => (t.tmr, t.phase)) = some (99#32, 0#3) ∧
    (answer (step (running 0 1 false [.tick]))).map (fun t => (t.tmr, t.phase)) = some (0#32, 1#3) ∧
    (answer (step (running 1 0 false [.tick]))).map (fun t => (t.tmr, t.phase)) = some (0#32, 1#3) := by decide
/-- L2-11. -/
theorem test_usample : (answer (step (running 1 0 false [.seq]))).map (fun t => (t.cnt, t.meas, t.phase)) =
    some (0#32, 0x01F40000#32, 2#3) := by decide
/-- L2-11: both faults of one step. -/
theorem test_usample_faults : (answer (exec .uSample { running 1 0 false [] with
    cfg := { Config.scenario with intervalMs := 1#32 }, cnt := 0xFFFFFFFF#32, ovf := true })).map
    (fun t => (t.cnt, t.ovf, t.fault, t.run, t.phase, t.meas)) = some (0#32, false, 6#4, false, 0#3, 0#32) := by decide
/-- L2-11. -/
theorem test_upi : (answer (step (running 2 0 false [.seq]))).map (fun t => (t.integ, t.out, t.phase)) =
    some (0x0009FFC4#32, 0x001DFFB0#32, 3#3) := by decide
/-- L2-11. -/
theorem test_uapply : (answer (step { running 3 0 false [.seq] with out := 0x001DFFB0#32 })).map
    (fun t => (t.duty, t.phase)) = some (19659#32, 4#3) := by decide
/-- L2-11. -/
theorem test_udiag :
    (answer (step { running 4 0 false [.seq] with meas := 7#32, out := 9#32 })).map
      (fun t => (t.diag, t.tmr, t.phase, t.run)) = some ([(7#32, 9#32)], 100#32, 0#3, true) ∧
    (answer (step (running 4 0 true [.seq]))).map (fun t => (t.tmr, t.run)) = some (100#32, false) := by decide
/-- L2-6. -/
theorem test_edge :
    (answer (step { State.resetWith narrow with cnt := 14#32, inputs := [.edge] })).map (fun t => (t.cnt, t.ovf)) =
      some (15#32, false) ∧
    (answer (step { State.resetWith narrow with cnt := 15#32, inputs := [.edge] })).map (fun t => (t.cnt, t.ovf)) =
      some (15#32, true) := by decide
/-- L2-12, P7b. -/
theorem test_reset_invalid : (answer (step { stopped with cfg := swapped, inputs := [.reset] })).map
    (fun t => (t.run, t.fault, t.tmr, t.statusWord)) = some (false, 1#4, 100#32, 0x00000020#32) := by decide
/-- L2-10: decoding comes before the busy check. -/
theorem test_illegal_word : (answer (step (running 0 100 false [.command ⟨0x16#8, 0, 0, 0⟩]))).map latches =
    some (1#3, 0#32, 0#32, 8#4) := by decide
/-- L2-11: a sequencer step that is not enabled. -/
theorem test_seq_idle : answer (step (running 0 100 false [.seq])) = some (running 0 100 false []) := by decide
/-- A table word placed by the host is the next operation. -/
theorem test_placed_word :
    (answer (step (State.reset.withFetchWord 8 0x0A))).map (fun t => t.res) = some 0x00000021#32 ∧
    (answer (step (State.reset.withFetchWord 3 0x2))).map (fun t => t.phase) = some 3#3 := by decide

/-! ### Witnesses -/

/-- `TofixScalesOrRefuses`: both ends of the range, and one beyond each. -/
theorem witness_tofix :
    (-32768 ≤ (0xFFFF8000#32).toInt ∧ (0xFFFF8000#32).toInt ≤ 32767) ∧
    (-32768 ≤ (0x00007FFF#32).toInt ∧ (0x00007FFF#32).toInt ≤ 32767) ∧
    (0xFFFF7FFF#32).toInt < -32768 ∧ 32767 < (0x00008000#32).toInt := by decide
/-- `MulTruncatesOrRefuses`: the products `-(2^47)` and `2^47 - 1`, and the products on the other side. -/
theorem witness_mul :
    (0x80000000#32).toInt * (0x00010000#32).toInt = -(2 ^ 47) ∧
    (13264529#32).toInt * (10610063#32).toInt = 2 ^ 47 - 1 ∧
    (0x80000000#32).toInt * (0x00010001#32).toInt < -(2 ^ 47) ∧
    (0x80000000#32).toInt * (0xFFFF0000#32).toInt = 2 ^ 47 := by decide
/-- `ClampSelectsOrRefuses`: equal bounds, each of the three places of `x`, and bounds out of order by one. -/
theorem witness_clamp :
    (5#32).toInt ≤ (5#32).toInt ∧ (4#32).toInt < (5#32).toInt ∧ (5#32).toInt < (6#32).toInt ∧
    (5#32).toInt ≤ (5#32).toInt ∧ (0xFFFFFFFF#32).toInt < (0#32).toInt := by decide
/-- `ClampLaws`: equal bounds, a value below, a value above, and `x ≤ y`. -/
theorem witness_clamp_laws : (0 : Int) ≤ 0 ∧ (-1 : Int) < 0 ∧ (0 : Int) < 1 ∧ (-1 : Int) ≤ 1 := by decide
/-- `VelConvertsOrRefuses`: the last velocity that fits, the first that does not, and a zero interval. -/
theorem witness_vel :
    (32767#32).toNat * 65536000 < 2 ^ 31 * (1000#32).toNat ∧
    ((1000#32) ≠ 0#32 ∧ 2 ^ 31 * (1000#32).toNat ≤ (32768#32).toNat * 65536000) ∧
    ¬ (0xFFFFFFFF#32).toNat * 65536000 < 2 ^ 31 * (0#32).toNat := by decide
/-- `RdclrReturnsAndZeroes`, `PistepComputesTheStep`, `ApplyScalesTheDuty`: a terminated and a running loop, equal
bounds, and bounds out of order. -/
theorem witness_loop_states :
    stopped.run = false ∧ (running 0 100 false []).run = true ∧
    ({ Config.scenario with imin := 5#32, imax := 5#32 } : Config).imin.toInt ≤
      ({ Config.scenario with imin := 5#32, imax := 5#32 } : Config).imax.toInt ∧
    swapped.imax.toInt < swapped.imin.toInt := by decide
/-- `RefusedCommandsChangeNothingElse`: a command that is refused, and an illegal word. -/
theorem witness_refused :
    (running 0 100 false [.command ⟨0x06#8, 0, 0, 0⟩]).inputs = .command ⟨0x06#8, 0, 0, 0⟩ :: [] ∧
    (∃ t, step (running 0 100 false [.command ⟨0x06#8, 0, 0, 0⟩]) = .next t ∧ t.rc ≠ 0#3) ∧
    (∃ t, step (running 0 100 false [.command ⟨0xFF#8, 0, 0, 0⟩]) = .next t ∧ t.rc ≠ 0#3) :=
  ⟨by decide, ⟨_, rfl, by decide⟩, ⟨_, rfl, by decide⟩⟩
/-- `DutyMapLaws`: the two pinned ends and an ordered pair. -/
theorem witness_duty : (-1 : Int) ≤ 0 ∧ (0 : Int) ≤ 0 ∧ (6553600 : Int) ≤ 6553600 := by decide
/-- `RdregReadsTheTable`: the first and last readable numbers, and both reserved ones; `RegisterReadsRepeat`. -/
theorem witness_rdreg : ((0#4 : BitVec 4), State.reset.statusWord) ∈ [((0#4 : BitVec 4), State.reset.statusWord)] ∧
    ((13#4 : BitVec 4), State.reset.tmr) ∈ [((0#4 : BitVec 4), 0#32), (13#4, State.reset.tmr)] ∧
    14 ≤ (14#4).toNat ∧ 14 ≤ (15#4).toNat ∧ (13#4).toNat ≤ 13 := by decide
/-- `PureCommandsTouchTheLatchesOnly`: the first and the last member of its list. -/
theorem witness_pure : Instr.nop ∈ [Instr.nop, .tofix 1, .fromfix 1, .mul 1 2, .clamp 1 2 3, .vel 1 2, .rdreg 15] ∧
    Instr.rdreg 15 ∈ [Instr.nop, .tofix 1, .fromfix 1, .mul 1 2, .clamp 1 2 3, .vel 1 2, .rdreg 15] := by decide
/-- `WaitCountsDown`: the last tick of a wait, and one before it. -/
theorem witness_wait : 1 ≤ (running 0 1 false []).tmr.toNat ∧ 1 ≤ (running 0 2 false []).tmr.toNat := by decide
/-- `SampleMeasuresOrTerminates`: the largest legal count of configuration S, 3276 (R237), and one more. -/
theorem witness_sample :
    (3276#32).toNat * 65536000 < 2 ^ 31 * Config.scenario.intervalMs.toNat ∧
    Config.scenario.intervalMs ≠ 0#32 ∧ 2 ^ 31 * Config.scenario.intervalMs.toNat ≤ (3277#32).toNat * 65536000 := by
  decide
/-- `PiComputesTheStep` and `ControllerResultsStayInBounds`: bounds in order, a next state of a step that is no reset,
and an integral on its lower bound. -/
theorem witness_controller : Config.scenario.imin.toInt ≤ Config.scenario.imax.toInt ∧
    (∃ t, step { running 2 0 false [.seq] with integ := 0xFF9C0000#32 } = .next t) ∧
    ({ running 2 0 false [.seq] with integ := 0xFF9C0000#32 } : State).nextInput.1 ≠ .reset ∧
    Config.scenario.imin.toInt ≤ (0xFF9C0000#32).toInt ∧ (0xFF9C0000#32).toInt ≤ Config.scenario.imax.toInt :=
  ⟨by decide, ⟨_, rfl⟩, by decide, by decide, by decide⟩
/-- `IntegralWindsUpThenPins`, upward: an error of 20.0 with `KI = 1.0` (P5), three steps. -/
theorem witness_windup : ∃ s : State, decodeCommand ⟨0x07#8, 0x00140000#32, 0#32, 0#32⟩ = .ok (.pistep 0x00140000#32 0#32) ∧
    s.run = false ∧ s.phase = 0#3 ∧ s.cfg.imin.toInt ≤ s.integ.toInt ∧ s.integ.toInt ≤ s.cfg.imax.toInt ∧
    1310720 * 65536 ≤ s.cfg.ki.toInt * ((0x00140000#32).toInt - (0#32).toInt) ∧
    s.cfg.ki.toInt * ((0x00140000#32).toInt - (0#32).toInt) < (1310720 + 1) * 65536 ∧
    s.inputs = List.replicate 3 (.command ⟨0x07#8, 0x00140000#32, 0#32, 0#32⟩) ++ [] :=
  ⟨{ stopped with
      cfg := { Config.scenario with ki := 0x00010000#32 }
      inputs := List.replicate 3 (.command ⟨0x07#8, 0x00140000#32, 0#32, 0#32⟩) }, by decide⟩
/-- `IntegralWindsUpThenPins`, downward: an error of one unit of least precision with `KI = 1.0`, a term of -1. -/
theorem witness_winddown : ∃ s : State, decodeCommand ⟨0x07#8, 0#32, 1#32, 0#32⟩ = .ok (.pistep 0#32 1#32) ∧
    s.run = false ∧ s.phase = 0#3 ∧ s.cfg.imin.toInt ≤ s.integ.toInt ∧ s.integ.toInt ≤ s.cfg.imax.toInt ∧
    -1 * 65536 ≤ s.cfg.ki.toInt * ((0#32).toInt - (1#32).toInt) ∧
    s.cfg.ki.toInt * ((0#32).toInt - (1#32).toInt) < (-1 + 1) * 65536 ∧
    s.inputs = List.replicate 1 (.command ⟨0x07#8, 0#32, 1#32, 0#32⟩) ++ [] :=
  ⟨{ stopped with
      cfg := { Config.scenario with ki := 0x00010000#32 }
      inputs := [.command ⟨0x07#8, 0#32, 1#32, 0#32⟩] }, by decide⟩
/-- `IntegralWindsUpThenPins`, at rest: an error of 65535 with the least gain (V-PI-8a), a term of 0. -/
theorem witness_windrest : ∃ s : State, decodeCommand ⟨0x07#8, 0x0000FFFF#32, 0#32, 0#32⟩ = .ok (.pistep 0x0000FFFF#32 0#32) ∧
    s.run = false ∧ s.phase = 0#3 ∧ s.cfg.imin.toInt ≤ s.integ.toInt ∧ s.integ.toInt ≤ s.cfg.imax.toInt ∧
    0 * 65536 ≤ s.cfg.ki.toInt * ((0x0000FFFF#32).toInt - (0#32).toInt) ∧
    s.cfg.ki.toInt * ((0x0000FFFF#32).toInt - (0#32).toInt) < (0 + 1) * 65536 ∧
    s.inputs = List.replicate 1 (.command ⟨0x07#8, 0x0000FFFF#32, 0#32, 0#32⟩) ++ [] :=
  ⟨{ stopped with
      cfg := { Config.scenario with ki := 1#32 }
      inputs := [.command ⟨0x07#8, 0x0000FFFF#32, 0#32, 0#32⟩] }, by decide⟩
/-- `EdgeCountsOrFlags`: one below the largest count, and the largest. -/
theorem witness_edge : ({ State.resetWith narrow with inputs := [.edge] } : State).inputs = .edge :: [] ∧
    (State.resetWith narrow).phase.toNat ≤ 4 ∧ (14#32).toNat < 2 ^ narrow.cw.val - 1 ∧
    (15#32).toNat = 2 ^ narrow.cw.val - 1 := by decide
/-- `ReadThenEdgeLeavesOne`: a `uSAMPLE` with its edge, and an `RDCLR` of a terminated loop with its edge. -/
theorem witness_read_then_edge : Inv (running 1 0 false [.seq, .edge]) ∧ (running 1 0 false [.seq, .edge]).run = true ∧
    (running 1 0 false [.seq, .edge]).phase = 1#3 ∧ (running 1 0 false [.seq, .edge]).inputs = .seq :: .edge :: [] ∧
    decodeCommand ⟨0x06#8, 1, 2, 3⟩ = .ok .rdclr ∧
    Inv { running 0 1 false [.command ⟨0x06#8, 1, 2, 3⟩, .edge] with run := false } :=
  ⟨running_inv _ _ _ _ (by decide) (by decide) (by decide) (by decide), by decide, by decide, by decide, by decide,
    { running_inv 0 1 false [] (by decide) (by decide) (by decide) (by decide) with
      stoppedInWait := fun _ => rfl
      runningValid := fun h => absurd h (by decide)
      numStops := fun _ => rfl
      timerLive := fun h => absurd h (by decide)
      stopPending := fun h => absurd h (by decide) }⟩
/-- `TickActsInTheWaitOnly`, `SequencerIdlesWhenNotEnabled`: a wait at its last tick, a phase outside the wait, a
terminated loop. -/
theorem witness_tick : (running 0 1 false [.tick]).inputs = .tick :: [] ∧ (running 0 1 false [.tick]).run = true ∧
    1 ≤ (running 0 1 false [.tick]).tmr.toNat ∧ (running 4 0 false [.tick]).phase ≠ 0#3 ∧
    (running 4 0 false [.tick]).phase.toNat ≤ 4 ∧ (running 0 1 false [.seq]).inputs = .seq :: [] ∧
    (running 0 1 false [.seq]).phase = 0#3 ∧ stopped.run = false := by decide
/-- `PhaseSelectsTheMicroOperation`, `StepRunsTheDecodedOperation`: each phase with its agent, and a command. -/
theorem witness_phases : (running 0 1 false [.tick]).run = true ∧ decode (.phase (running 0 1 false []).phase) = .ok .uWait ∧
    (running 1 0 false [.seq]).inputs = .seq :: [] ∧ (running 1 0 false [.seq]).phase ≠ 0#3 ∧
    decode (.phase (running 1 0 false []).phase) = .ok .uSample ∧ (running 2 0 false [.seq]).phase = 2#3 ∧
    (running 3 0 false [.seq]).phase = 3#3 ∧ decode (.phase (running 4 0 false []).phase) = .ok .uDiag ∧
    decode (.command ⟨0xDA#8, 0, 0, 0⟩) = .ok (.rdreg 13) := by decide
/-- `ResetSetsEveryRegister`: a reset is next, under a valid and an invalid configuration. -/
theorem witness_reset : (running 2 0 true [.reset]).inputs = .reset :: [] ∧ cfgValid Config.scenario = true ∧
    ({ stopped with cfg := swapped, inputs := [.reset] } : State).inputs = .reset :: [] ∧ cfgValid swapped = false := by
  decide
/-- `ReservedPhaseFaults`: the least and the greatest reserved phase. -/
theorem witness_reserved : (running 5 0 false [.edge]).inputs = .edge :: [] ∧ AgentStep.edge ≠ .reset ∧
    5 ≤ (running 5 0 false [.edge]).phase.toNat ∧ 5 ≤ (running 7 0 false [.edge]).phase.toNat := by decide
/-- `UnscheduledStepIsTheEnvironments`: nothing is scheduled. -/
theorem witness_unscheduled : State.reset.inputs = [] := by decide
/-- `DecodeOfEncodeIsTheOperation`, `OpcodeMapReadsTheOperands`: the last register number, the first reserved `op`. -/
theorem witness_wf : (Instr.rdreg 13).wf = true ∧ (Instr.mul 0xFFFFFFFF#32 1#32).wf = true ∧ (13#4).toNat ≤ 13 ∧
    11 ≤ (11#4).toNat := by decide
/-- `EncodeOfDecodeIsTheWord`: a command with ignored operand words, and a phase. -/
theorem witness_decodes : decodeCommand ⟨0x09#8, 1, 2, 3⟩ = .ok .cancel ∧ decodePhase 4#3 = .ok .uDiag := by decide
/-- `IllegalWordsAreRefused`: each kind of illegal word at a boundary. -/
theorem witness_illegal : (running 0 100 false [.command ⟨0x0B#8, 0, 0, 0⟩]).inputs = .command ⟨0x0B#8, 0, 0, 0⟩ :: [] ∧
    (running 0 100 false []).phase.toNat ≤ 4 ∧ 11 ≤ (0x0B#8).toNat % 16 ∧
    ((0x19#8).toNat % 16 ≤ 9 ∧ (0x19#8).toNat / 16 ≠ 0) ∧
    ((0xEA#8).toNat % 16 = 10 ∧ 14 ≤ (0xEA#8).toNat / 16) := by decide
/-- `PlacedWordRunsNext`: a command word and a phase. -/
theorem witness_placed : decodeTableWord 8 0xDA = some (.rdreg 13) ∧ 3 < 8 ∧ State.reset.phase.toNat ≤ 4 ∧
    decodeTableWord 3 4 = some .uDiag := by decide
/-- `ResetMeetsTheInvariants`: the narrowest counter. -/
theorem witness_config : ({ swapped with cw := 1 } : Config).wf = true := by decide
/-- `EveryStepKeepsTheInvariants`, `LoopMovesAreTheTable`, `RunsNeverStop`, `NoStepWritesTheConfiguration`: a state
that meets the invariants and answers a next state. -/
theorem witness_step : Inv (running 1 0 false [.seq]) ∧ ∃ t, step (running 1 0 false [.seq]) = .next t :=
  ⟨running_inv _ _ _ _ (by decide) (by decide) (by decide) (by decide), ⟨_, rfl⟩⟩
/-- `FaultBitsAreSticky`: a set bit before a step that is no reset. -/
theorem witness_sticky : (∃ t, step { running 1 0 false [.edge] with fault := 8#4 } = .next t) ∧
    ({ running 1 0 false [.edge] with fault := 8#4 } : State).nextInput.1 ≠ .reset ∧ (8#4).getLsbD 3 = true :=
  ⟨⟨_, rfl⟩, by decide, by decide⟩
/-- `DiagnosticTraceOnlyGrows`: a `uDIAG` with `DIAG_EN`, and a step that is none. -/
theorem witness_trace : (∃ t, step (running 4 0 false [.seq]) = .next t) ∧
    (running 4 0 false [.seq]).nextInput.1 = .seq ∧ (running 4 0 false [.seq]).cfg.diagEn = true ∧
    (∃ t, step (running 3 0 false [.seq]) = .next t) := ⟨⟨_, rfl⟩, by decide, by decide, ⟨_, rfl⟩⟩
/-- `TerminatedStateIsAbsorbing`: an edge in a terminated loop. -/
theorem witness_terminated : stopped.run = false ∧ (∃ t, step { stopped with inputs := [.edge] } = .next t) ∧
    ({ stopped with inputs := [.edge] } : State).nextInput.1 = .edge := ⟨by decide, ⟨_, rfl⟩, by decide⟩
/-- `LoopNeverStopsByItself`: a `uDIAG` of a running loop without a request. -/
theorem witness_forever : Inv (running 4 0 false [.seq]) ∧ (running 4 0 false [.seq]).run = true ∧
    (running 4 0 false [.seq]).stopReq = false ∧ (running 4 0 false [.seq]).nextInput.1 = .seq ∧
    (∃ t, step (running 4 0 false [.seq]) = .next t) :=
  ⟨running_inv _ _ _ _ (by decide) (by decide) (by decide) (by decide), by decide, by decide, by decide, ⟨_, rfl⟩⟩
/-- `HostCannotDisturbARunningLoop`: a `PISTEP` of a running loop, and a `CANCEL` outside the wait. -/
theorem witness_host : (running 2 0 false [.command ⟨0x07#8, 1, 2, 0⟩]).nextInput.1 = .command ⟨0x07#8, 1, 2, 0⟩ ∧
    decodeCommand ⟨0x07#8, 1, 2, 0⟩ ≠ .ok .cancel ∧
    (∃ t, step (running 2 0 false [.command ⟨0x07#8, 1, 2, 0⟩]) = .next t) ∧
    (running 2 0 false [.command ⟨0x09#8, 0, 0, 0⟩]).run = true ∧
    (∃ t, step (running 2 0 false [.command ⟨0x09#8, 0, 0, 0⟩]) = .next t) :=
  ⟨by decide, by decide, ⟨_, rfl⟩, by decide, ⟨_, rfl⟩⟩
/-- `EdgesAreConserved`, without loss: two edges counted by a counter of 4 bits. -/
theorem witness_conserved : ∃ t, steps 2 { State.resetWith narrow with inputs := [.edge, .edge], envTime := 0 } = .next t ∧
    resetIn (history 2 { State.resetWith narrow with inputs := [.edge, .edge], envTime := 0 }) = false ∧
    overflowIn (history 2 { State.resetWith narrow with inputs := [.edge, .edge], envTime := 0 }) = false ∧
    t.ovf = false := ⟨_, rfl, by decide, by decide, by decide⟩
/-- `EdgesAreConserved`, with loss: two edges at a counter of one bit, left flagged. -/
theorem witness_lost :
    ∃ t, steps 2 { State.resetWith { narrow with cw := 1 } with inputs := [.edge, .edge], envTime := 0 } = .next t ∧
    resetIn (history 2 { State.resetWith { narrow with cw := 1 } with inputs := [.edge, .edge], envTime := 0 }) = false ∧
    t.ovf = true := ⟨_, rfl, by decide, by decide⟩
/-- `WaitLastsItsTicks`: a wait of two ticks with one taken among an edge, and the tick that ends it. -/
theorem witness_wait_lasts : Inv (running 0 2 false [.edge, .tick, .tick]) ∧
    (running 0 2 false [.edge, .tick, .tick]).inputs = [.edge, .tick] ++ [.tick] ∧
    (∀ a ∈ [AgentStep.edge, .tick], a ≠ .reset ∧ ∀ c, a = .command c → decodeCommand c ≠ .ok .cancel) ∧
    [AgentStep.edge, .tick].count .tick + 1 = (running 0 2 false []).tmr.toNat ∧
    [AgentStep.tick].head? = some .tick ∧ [AgentStep.edge, .tick].count .tick < (running 0 2 false []).tmr.toNat :=
  ⟨running_inv _ _ _ _ (by decide) (by decide) (by decide) (by decide), by decide, by simp, by decide, by decide,
    by decide⟩
/-- `CycleIsOneFunction`: the cycle of 50 edges of configuration S, with an edge, a tick and a `CANCEL` between its
steps. -/
theorem witness_cycle :
    Inv (running 1 0 false [.seq, .edge, .seq, .tick, .seq, .command ⟨0x09#8, 0, 0, 0⟩, .seq]) ∧
    (running 1 0 false [.seq, .edge, .seq, .tick, .seq, .command ⟨0x09#8, 0, 0, 0⟩, .seq]).inputs =
      .seq :: [.edge] ++ .seq :: [.tick] ++ .seq :: [.command ⟨0x09#8, 0, 0, 0⟩] ++ .seq :: [] ∧
    (∀ a ∈ [AgentStep.edge] ++ [.tick] ++ [.command ⟨0x09#8, 0, 0, 0⟩], a ≠ .seq ∧ a ≠ .reset) ∧
    (cycle Config.scenario (0#32).toInt (50#32).toNat).meas ≤ 2 ^ 31 - 1 :=
  ⟨running_inv _ _ _ _ (by decide) (by decide) (by decide) (by decide), by decide, by decide, by decide⟩
/-- `CancelStopsWithinTheCycle`, `SequencerReturnsToTheWait`: a cancelled loop at `SAMPLE`, four sequencer steps and an
edge. -/
theorem witness_cancelled : Inv (running 1 0 true [.seq, .edge, .seq, .seq, .seq]) ∧
    (running 1 0 true [.seq, .edge, .seq, .seq, .seq]).stopReq = true ∧
    (running 1 0 true [.seq, .edge, .seq, .seq, .seq]).inputs = [.seq, .edge, .seq, .seq, .seq] ++ [] ∧
    (∀ a ∈ [AgentStep.seq, .edge, .seq, .seq, .seq], a ≠ .reset) ∧
    4 ≤ [AgentStep.seq, .edge, .seq, .seq, .seq].count .seq :=
  ⟨running_inv _ _ _ _ (by decide) (by decide) (by decide) (by decide), by decide, by decide, by decide, by decide⟩

end Sys2Proof.Machine
end

namespace Sys2Proof.Machine

/-! ## The views `STATUS` and `FAULT` -/

/-- The bits of `STATUS` (R34). -/
theorem State.statusWord_getLsbD (s : State) (k : Nat) :
    s.statusWord.getLsbD k =
      if k = 0 then s.run
      else if k < 4 then s.phase.getLsbD (k - 1)
      else if k = 4 then s.stopReq
      else if k = 5 then s.cfg.diagEn
      else false := by
  unfold State.statusWord
  rw [BitVec.getLsbD_setWidth, BitVec.getLsbD_append, BitVec.getLsbD_append, BitVec.getLsbD_append]
  obtain rfl | ⟨h0, h4⟩ | rfl | rfl | h6 : k = 0 ∨ (k ≠ 0 ∧ k < 4) ∨ k = 4 ∨ k = 5 ∨ 6 ≤ k := by omega
  · simp
  · simp [h0, h4, show k - 1 < 3 by omega, show k < 32 by omega]
  · simp
  · simp
  · simp [show k ≠ 0 by omega, show ¬ k < 4 by omega, show ¬ k - 1 < 3 by omega, show k ≠ 4 by omega,
      show k ≠ 5 by omega, show k - 1 - 3 ≠ 0 by omega, show k - 1 - 3 - 1 ≠ 0 by omega]

/-- Settles O16, bit by bit. -/
theorem statusAndFaultLayout : Obligations.StatusAndFaultLayout := by
  intro s
  refine ⟨s.statusWord_getLsbD 0, ?_, s.statusWord_getLsbD 4, s.statusWord_getLsbD 5, ?_, ?_, ?_⟩
  · refine BitVec.eq_of_getLsbD_eq fun k hk => ?_
    rw [BitVec.getLsbD_extractLsb', s.statusWord_getLsbD, if_neg (by omega), if_pos (by omega)]
    simp [hk]
  · refine BitVec.eq_of_getLsbD_eq fun k hk => ?_
    rw [BitVec.getLsbD_extractLsb', s.statusWord_getLsbD]
    simp [show ¬ 6 + k < 4 by omega, show 6 + k ≠ 4 by omega, show 6 + k ≠ 5 by omega]
  · exact BitVec.eq_of_getLsbD_eq fun k hk => by simp [State.faultWord, hk, show k < 32 by omega]
  · exact BitVec.eq_of_getLsbD_eq fun k hk => by simp [State.faultWord]

/-! ## What a step can do -/

/-- What a host command leaves in the registers, by the operation it decodes to (10_state.md R41). -/
inductive CommandEffect (i : Instr) (s : State) : State → Prop
  /-- Refused (R202). -/
  | refused (e : RespCode) : CommandEffect i s (s.refuse e)
  /-- Answered `OK` without touching the loop. -/
  | answered (r r2 : Word) : CommandEffect i s (s.respond .ok r r2)
  /-- `RDCLR` of a terminated loop (R124). -/
  | cleared (hrun : s.run = false) (r r2 : Word) : CommandEffect i s (s.clearCount.respond .ok r r2)
  /-- `PISTEP` of a terminated loop with its bounds in order (R156). -/
  | controlled (hrun : s.run = false) (hb : s.cfg.imin.toInt ≤ s.cfg.imax.toInt) (a b r r2 : Word) :
      CommandEffect i s ((s.setController (s.piWords a b).1 (s.piWords a b).2).respond .ok r r2)
  /-- `APPLY` in a terminated loop (R172). -/
  | driven (hrun : s.run = false) (a r r2 : Word) :
      CommandEffect i s ((s.setDuty (s.dutyWord a)).respond .ok r r2)
  /-- `CANCEL` (R187). -/
  | cancelled (hi : i = .cancel) :
      CommandEffect i s { s with
        stopReq := true
        run := s.run && !decide (s.phase = phWait)
        rc := 0#3
        res := 0#32
        res2 := 0#32 }

/-- What an agent step leaves in the registers: one case per agent and branch of its meaning. -/
inductive StepEffect (s : State) : AgentStep → State → Prop
  /-- `RESET` (R230). -/
  | reset : StepEffect s .reset s.doReset
  /-- An `EDGE` below the maximum (R122). -/
  | edgeCounted (hc : s.cnt.toNat < cntMax s.cfg) (hn : (s.cnt + 1#32).toNat = s.cnt.toNat + 1) :
      StepEffect s .edge { s with cnt := s.cnt + 1#32 }
  /-- An `EDGE` at the maximum (R122). -/
  | edgeFlagged (hc : cntMax s.cfg ≤ s.cnt.toNat) : StepEffect s .edge { s with ovf := true }
  /-- The last `TICK` of a wait (R138). -/
  | waitEnded (hrun : s.run = true) (hp : s.phase = 0#3) (ht : s.tmr ≠ 0#32) (hl : s.tmr - 1#32 = 0#32) :
      StepEffect s .tick ((s.setTmr (s.tmr - 1#32)).toPhase phSample)
  /-- Any other `TICK` of a wait (R138). -/
  | waitCounted (hrun : s.run = true) (hp : s.phase = 0#3) (ht : s.tmr ≠ 0#32) (hl : s.tmr - 1#32 ≠ 0#32) :
      StepEffect s .tick (s.setTmr (s.tmr - 1#32))
  /-- A `TICK` outside a running wait (R138). -/
  | tickIdle (hidle : ¬ (s.run = true ∧ s.phase = 0#3)) : StepEffect s .tick s
  /-- `uSAMPLE` with a velocity that fits (R183). -/
  | sampled (hrun : s.run = true) (hp : s.phase = 1#3)
      (hv : velq s.cnt.toNat s.cfg.intervalMs.toNat ≤ 2147483647) :
      StepEffect s .seq { s with
        cnt := 0#32
        ovf := false
        fault := if s.ovf then s.fault ||| 4#4 else s.fault
        meas := zext32 (velq s.cnt.toNat s.cfg.intervalMs.toNat)
        phase := phPi }
  /-- `uSAMPLE` with a velocity that does not fit (R183, R206). -/
  | terminated (hrun : s.run = true) (hp : s.phase = 1#3)
      (hv : 2147483647 < velq s.cnt.toNat s.cfg.intervalMs.toNat) :
      StepEffect s .seq { s with
        cnt := 0#32
        ovf := false
        fault := (if s.ovf then s.fault ||| 4#4 else s.fault) ||| 2#4
        run := false
        phase := phWait }
  /-- `uPI` (R184). -/
  | controlled (hrun : s.run = true) (hp : s.phase = 2#3) (hb : s.cfg.imin.toInt ≤ s.cfg.imax.toInt) :
      StepEffect s .seq
        ((s.setController (s.piWords s.cfg.target s.meas).1 (s.piWords s.cfg.target s.meas).2).toPhase phApply)
  /-- `uAPPLY` (R185). -/
  | driven (hrun : s.run = true) (hp : s.phase = 3#3) :
      StepEffect s .seq ((s.setDuty (s.dutyWord s.out)).toPhase phDiag)
  /-- `uDIAG` (R186). -/
  | closed (hrun : s.run = true) (hp : s.phase = 4#3) :
      StepEffect s .seq { s with
        diag := if s.cfg.diagEn then s.diag ++ [(s.meas, s.out)] else s.diag
        tmr := s.cfg.intervalMs
        phase := phWait
        run := s.run && !s.stopReq }
  /-- A `SEQ` that is not enabled (R181). -/
  | seqIdle (hidle : s.run = false ∨ s.phase = 0#3) : StepEffect s .seq s
  /-- An illegal command word (R85). -/
  | illegal {c : Command} {r : Reject} (hd : decodeCommand c = .error r) :
      StepEffect s (.command c) (s.refuse .errIllegal)
  /-- A legal command. -/
  | command {c : Command} {i : Instr} {t : State} (hd : decodeCommand c = .ok i) (he : CommandEffect i s t) :
      StepEffect s (.command c) t

variable {s t : State} {a : AgentStep} {c : Command} {i : Instr}

/-- A legal command word decodes by the opcode map of R83. -/
theorem decodeCommand_ok (h : decodeCommand c = .ok i) :
    opcodeMap (opField c.cmd).toNat (rnField c.cmd) c.a c.b c.c = some i := by
  unfold decodeCommand at h
  dsimp only at h
  split at h
  · cases h
  · split at h
    · cases h
    · split at h
      · cases h
      · split at h
        · cases h
          assumption
        · cases h

/-- A command with two branches has an effect if each branch has. -/
theorem CommandEffect.ite {p : Prop} [Decidable p] {u : State} (ht : p → CommandEffect i s t)
    (hu : ¬ p → CommandEffect i s u) : CommandEffect i s (if p then t else u) := by
  split
  · exact ht ‹_›
  · exact hu ‹_›

/-- Every operation of the opcode map answers a next state, with one of the effects of a command; the cases stand in
the map's order, `NOP` to `RDREG`. -/
theorem exec_opcodeMap {op : Nat} {rn : BitVec 4} {a b c : Word} (s : State)
    (h : opcodeMap op rn a b c = some i) : ∃ t, exec i s = .next t ∧ CommandEffect i s t := by
  unfold opcodeMap at h
  split at h <;> cases h
  · exact ⟨_, rfl, .answered _ _⟩
  · exact ⟨_, rfl, .ite (fun _ => .refused _) fun _ => .answered _ _⟩
  · exact ⟨_, rfl, .answered _ _⟩
  · exact ⟨_, rfl, .ite (fun _ => .answered _ _) fun _ => .refused _⟩
  · exact ⟨_, rfl, .ite (fun _ => .refused _) fun _ => .answered _ _⟩
  · exact ⟨_, rfl, .ite (fun _ => .refused _) fun _ => .ite (fun _ => .answered _ _) fun _ => .refused _⟩
  · exact ⟨_, rfl, .ite (fun _ => .refused _) fun hr => .cleared (eq_false_of_ne_true hr) _ _⟩
  · exact ⟨_, rfl, .ite (fun _ => .refused _) fun hr =>
      .ite (fun hb => .controlled (eq_false_of_ne_true hr) ((boundsOrdered_iff _).1 hb) _ _ _ _) fun _ => .refused _⟩
  · exact ⟨_, rfl, .ite (fun _ => .refused _) fun hr => .driven (eq_false_of_ne_true hr) _ _ _⟩
  · exact ⟨_, execCancel_eq s, .cancelled rfl⟩
  · refine ⟨_, rfl, ?_⟩
    split
    · exact .answered _ _
    · exact .refused _

/-- A host command always answers a next state: it is refused as illegal, or has the effect of its operation. -/
theorem runTask_command (c : Command) (s : State) :
    ∃ t, runTask (select (.command c) s) s = .next t ∧ StepEffect s (.command c) t := by
  cases hd : decodeCommand c with
  | error r => exact ⟨_, by simp only [select, hd, runTask], .illegal hd⟩
  | ok i =>
    obtain ⟨t, ht, he⟩ := exec_opcodeMap s (decodeCommand_ok hd)
    exact ⟨t, by simp only [select, hd, runTask, ht], .command hd he⟩

/-- Whatever an agent step answers is one of its effects. -/
theorem perform_effect (h : perform a s = .next t) : StepEffect s a t := by
  cases a with
  | reset => exact perform_reset_next h ▸ .reset
  | edge =>
    obtain ⟨_, ⟨hc, rfl, hn⟩ | ⟨hc, rfl⟩⟩ := perform_edge_next h
    · exact .edgeCounted hc hn
    · exact .edgeFlagged hc
  | tick =>
    obtain ⟨_, ⟨hrun, hp, hw⟩ | ⟨hidle, rfl⟩⟩ := perform_tick_next h
    · obtain ⟨ht, ⟨hl, rfl⟩ | ⟨hl, rfl⟩⟩ := execUWait_next hw
      · exact .waitEnded hrun hp ht hl
      · exact .waitCounted hrun hp ht hl
    · exact .tickIdle hidle
  | seq =>
    obtain ⟨_, ⟨hrun, hp, he⟩ | ⟨hrun, hp, he⟩ | ⟨hrun, hp, he⟩ | ⟨hrun, hp, he⟩ | ⟨hidle, rfl⟩⟩ :=
      perform_seq_next h
    · obtain ⟨_, ⟨hv, rfl⟩ | ⟨hv, rfl⟩⟩ := execUSample_next he
      · exact .sampled hrun hp hv
      · exact .terminated hrun hp hv
    · obtain ⟨hb, rfl⟩ := execUPi_next he
      exact .controlled hrun hp hb
    · cases he
      exact .driven hrun hp
    · rw [execUDiag_eq] at he
      cases he
      exact .closed hrun hp
    · exact .seqIdle hidle
  | command c =>
    obtain ⟨hr, _⟩ | ⟨_, _, ht⟩ := perform_next h
    · cases hr
    · obtain ⟨u, hu, he⟩ := runTask_command c s
      cases hu.symm.trans ht
      exact he

/-- A step has an effect of its agent step, in the state with the schedule moved on. -/
theorem step_effect (h : step s = .next t) :
    ∃ l n, StepEffect { s with inputs := l, envTime := n } s.nextInput.1 t :=
  ⟨_, _, State.nextInput_snd s ▸ perform_effect h⟩

/-- Settles O33: taking the next agent step leaves `PHASE`, and `perform` faults on a reserved one. -/
theorem reservedPhaseFaults : Obligations.ReservedPhaseFaults := by
  intro s a rest hin ha hp
  rw [step, State.nextInput_of_cons hin]
  exact if_pos ⟨hp, ha⟩

/-! ## What every step keeps: the configuration, the `FAULT` bits, the trace -/

theorem CommandEffect.cfg_eq (h : CommandEffect i s t) : t.cfg = s.cfg := by
  cases h <;> rfl

theorem StepEffect.cfg_eq (h : StepEffect s a t) : t.cfg = s.cfg := by
  cases h with
  | command _ he => exact he.cfg_eq
  | _ => rfl

theorem CommandEffect.fault_grows (h : CommandEffect i s t) : ∃ m, t.fault = s.fault ||| m := by
  cases h with
  | refused => exact ⟨_, rfl⟩
  | _ => exact ⟨0#4, BitVec.or_zero.symm⟩

/-- Every agent step but `RESET` writes `FAULT` by setting bits. -/
theorem StepEffect.fault_grows (h : StepEffect s a t) (ha : a ≠ .reset) : ∃ m, t.fault = s.fault ||| m := by
  cases h with
  | reset => exact absurd rfl ha
  | sampled => exact ⟨if s.ovf then 4#4 else 0#4, by cases s.ovf <;> simp⟩
  | terminated => exact ⟨(if s.ovf then 4#4 else 0#4) ||| 2#4, by cases s.ovf <;> simp [BitVec.or_assoc]⟩
  | illegal => exact ⟨_, rfl⟩
  | command _ he => exact he.fault_grows
  | _ => exact ⟨0#4, BitVec.or_zero.symm⟩

theorem CommandEffect.diag_eq (h : CommandEffect i s t) : t.diag = s.diag := by
  cases h <;> rfl

/-- The trace after a step that is no `RESET`: only `uDIAG` with `DIAG_EN` appends to it. -/
theorem StepEffect.diag_eq (h : StepEffect s a t) (ha : a ≠ .reset) :
    t.diag = if a = .seq ∧ s.run = true ∧ s.phase = 4#3 ∧ s.cfg.diagEn = true then s.diag ++ [(s.meas, s.out)]
      else s.diag := by
  cases h with
  | reset => exact absurd rfl ha
  | closed hrun hp => simp [hrun, hp]
  | sampled _ hp => simp [hp]
  | terminated _ hp => simp [hp]
  | controlled _ hp => simp [hp]
  | driven _ hp => simp [hp]
  | seqIdle hidle => rcases hidle with hi | hi <;> simp [hi]
  | command _ he => simp [he.diag_eq]
  | _ => simp

/-- Settles O46: each effect of a step leaves the configuration. -/
theorem noStepWritesTheConfiguration : Obligations.NoStepWritesTheConfiguration := by
  intro s t h
  obtain ⟨l, n, he⟩ := step_effect h
  exact he.cfg_eq

/-- Settles O47: every effect but that of `RESET` sets bits of `FAULT` and clears none. -/
theorem faultBitsAreSticky : Obligations.FaultBitsAreSticky := by
  intro s t b h ha hb
  obtain ⟨l, n, he⟩ := step_effect h
  obtain ⟨m, hm⟩ := he.fault_grows ha
  change t.fault = s.fault ||| m at hm
  rw [hm, BitVec.getLsbD_or, hb, Bool.true_or]

/-- Settles O48: of the effects of a step only the one of `uDIAG` appends a record. -/
theorem diagnosticTraceOnlyGrows : Obligations.DiagnosticTraceOnlyGrows := by
  intro s t h ha
  obtain ⟨l, n, he⟩ := step_effect h
  exact he.diag_eq ha

/-- A command given to a running loop reaches `STOP_REQ`, `RUN`, `FAULT` and the latches only, and the first two by
`CANCEL` only (R41). -/
theorem CommandEffect.frame_of_running (h : CommandEffect i s t) (hrun : s.run = true) :
    t = { s with run := t.run, stopReq := t.stopReq, fault := t.fault, rc := t.rc, res := t.res, res2 := t.res2 } ∧
      (s.phase ≠ 0#3 → t.run = true) ∧ (i ≠ .cancel → t.run = true ∧ t.stopReq = s.stopReq) := by
  cases h with
  | refused => exact ⟨rfl, fun _ => hrun, fun _ => ⟨hrun, rfl⟩⟩
  | answered => exact ⟨rfl, fun _ => hrun, fun _ => ⟨hrun, rfl⟩⟩
  | cleared hstop => simp [hstop] at hrun
  | controlled hstop => simp [hstop] at hrun
  | driven hstop => simp [hstop] at hrun
  | cancelled hi => exact ⟨rfl, fun hp => by simp [hrun, hp], fun hne => absurd hi hne⟩

/-- Settles O52: an illegal word is refused, and a legal command has the frame of R41. -/
theorem hostCannotDisturbARunningLoop : Obligations.HostCannotDisturbARunningLoop := by
  intro s t c hrun ha h
  obtain ⟨l, n, he⟩ := step_effect h
  rw [ha] at he
  cases he with
  | illegal => exact ⟨rfl, rfl, rfl, rfl, rfl, rfl, rfl, rfl, rfl, fun _ => hrun, fun _ => ⟨hrun, rfl⟩⟩
  | command hd he =>
    obtain ⟨ht, hout, hother⟩ := he.frame_of_running hrun
    rw [ht]
    exact ⟨rfl, rfl, rfl, rfl, rfl, rfl, rfl, rfl, rfl, hout, fun hne => hother fun hi => hne (hi ▸ hd)⟩

/-! ## The invariants -/

theorem intervalMs_pos_of_valid {c : Config} (h : cfgValid c = true) : 1 ≤ c.intervalMs.toNat := by
  have hi : c.intervalMs ≠ 0#32 := ((cfgValid_iff c).1 h).1
  bv_omega

/-- `RESET` meets the invariants under every configuration, valid or not. -/
theorem resetWith_inv (c : Config) (hc : c.wf = true) : Inv (State.resetWith c) where
  cwPositive := hc
  phaseLegal := Nat.zero_le 4
  stoppedInWait := fun _ => rfl
  runningValid := id
  faultCfg := by cases hv : cfgValid c <;> simp [State.resetWith, hv]
  numStops := by cases hv : cfgValid c <;> simp [State.resetWith, hv]
  timerLive := fun hv _ => intervalMs_pos_of_valid hv
  timerBound := Nat.le_refl _
  stopPending := fun _ h => absurd h Bool.false_ne_true
  integBound := .inl rfl
  outBound := (by decide : 0 ≤ (0#32).toInt ∧ (0#32).toInt ≤ 6553600)
  dutyBound := Nat.zero_le _
  measBound := (by decide : 0 ≤ (0#32).toInt)
  countBound := Nat.zero_le _
  overflowFull := fun h => absurd h Bool.false_ne_true
  codeLegal := Nat.zero_le 5

namespace Inv

/-- The invariants do not speak of the schedule. -/
theorem schedule (h : Inv s) (l : List AgentStep) (n : Nat) : Inv { s with inputs := l, envTime := n } := { h with }

theorem doReset (h : Inv s) : Inv s.doReset := (resetWith_inv s.cfg h.cwPositive).schedule _ _

theorem respond_ok (h : Inv s) (r r2 : Word) : Inv (s.respond .ok r r2) := { h with codeLegal := rcWord_le .ok }

theorem refuse (h : Inv s) (e : RespCode) : Inv (s.refuse e) :=
  { h with
    codeLegal := rcWord_le e
    faultCfg := by simpa [faultMask] using h.faultCfg
    numStops := by simpa [faultMask] using h.numStops }

theorem clearCount (h : Inv s) : Inv s.clearCount :=
  { h with
    countBound := Nat.zero_le _
    overflowFull := fun ho => absurd ho Bool.false_ne_true }

/-- The controller's results are in their bounds, whatever it is given. -/
theorem setController (h : Inv s) (hb : s.cfg.imin.toInt ≤ s.cfg.imax.toInt) (a b : Word) :
    Inv (s.setController (s.piWords a b).1 (s.piWords a b).2) := by
  obtain ⟨hi, ho⟩ := s.piWords_toInt a b hb
  obtain ⟨ilo, ihi, olo, ohi⟩ := piStep_bounds s.cfg s.integ.toInt a.toInt b.toInt hb
  exact { h with
    integBound := .inr ⟨hi ▸ ilo, hi ▸ ihi⟩
    outBound := ⟨ho ▸ olo, ho ▸ ohi⟩ }

theorem setDuty (h : Inv s) (p : Word) : Inv (s.setDuty (s.dutyWord p)) :=
  { h with dutyBound := s.dutyWord_toNat p ▸ dutyq_le s.cfg p.toInt }

/-- A running loop keeps the invariants as it enters any phase but `WAIT`. -/
theorem toPhase (h : Inv s) (hrun : s.run = true) {p : BitVec 3} (hp : p.toNat ≤ 4) (h0 : p ≠ 0#3) :
    Inv (s.toPhase p) :=
  { h with
    phaseLegal := hp
    stoppedInWait := fun hs => by simp [hrun] at hs
    timerLive := fun _ hz => absurd hz h0
    stopPending := fun _ _ => h0 }

/-- `TMR` may take any value within the interval that leaves a wait its last tick. -/
theorem setTmr (h : Inv s) {v : Word} (hb : v.toNat ≤ s.cfg.intervalMs.toNat)
    (hl : s.phase = 0#3 → 1 ≤ v.toNat) : Inv (s.setTmr v) :=
  { h with
    timerLive := fun _ => hl
    timerBound := hb }

/-- The countdown stays within the interval and does not wrap (R110). -/
theorem tmr_pred_le (h : Inv s) (ht : s.tmr ≠ 0#32) : (s.tmr - 1#32).toNat ≤ s.cfg.intervalMs.toNat := by
  have hb := h.timerBound
  bv_omega

theorem setMeas (h : Inv s) {v : Word} (hv : 0 ≤ v.toInt) : Inv (s.setMeas v) := { h with measBound := hv }

theorem terminate (h : Inv s) : Inv s.terminate :=
  { h with
    phaseLegal := Nat.zero_le 4
    stoppedInWait := fun _ => rfl
    runningValid := fun hr => absurd hr Bool.false_ne_true
    numStops := fun _ => rfl
    timerLive := fun hr => absurd hr Bool.false_ne_true
    stopPending := fun hr => absurd hr Bool.false_ne_true }

/-- `FAULT.NUM` comes with termination (R206). -/
theorem raise_num (h : Inv s) (hrun : s.run = false) : Inv (s.raise .num) :=
  { h with
    faultCfg := by simpa [faultMask] using h.faultCfg
    numStops := fun _ => hrun }

/-- `uSAMPLE` sets `FAULT.PULSE_OVF` if `OVF` is set (R205). -/
theorem flagSaturation (h : Inv s) : Inv { s with fault := if s.ovf then s.fault ||| 4#4 else s.fault } :=
  { h with
    faultCfg := by cases ho : s.ovf <;> simpa using h.faultCfg
    numStops := by cases ho : s.ovf <;> simpa using h.numStops }

end Inv

/-- Every effect of a command keeps the invariants. -/
theorem CommandEffect.keeps_inv (he : CommandEffect i s t) (h : Inv s) : Inv t := by
  cases he with
  | refused e => exact h.refuse e
  | answered r r2 => exact h.respond_ok r r2
  | cleared _ r r2 => exact h.clearCount.respond_ok r r2
  | controlled _ hb a b r r2 => exact (h.setController hb a b).respond_ok r r2
  | driven _ a r r2 => exact (h.setDuty a).respond_ok r r2
  | cancelled =>
    exact { h with
      stoppedInWait := fun hs => by
        cases hr : s.run with
        | false => exact h.stoppedInWait hr
        | true => simpa [hr] using hs
      runningValid := fun hr => h.runningValid (Bool.and_elim_left hr)
      numStops := fun hf => by simp [h.numStops hf]
      timerLive := fun hr => h.timerLive (Bool.and_elim_left hr)
      stopPending := fun hr _ => by simpa using Bool.and_elim_right hr
      codeLegal := Nat.zero_le 5 }

/-- Every effect of a step keeps the invariants. -/
theorem StepEffect.keeps_inv (he : StepEffect s a t) (h : Inv s) : Inv t := by
  cases he with
  | reset => exact h.doReset
  | edgeCounted hc hn =>
    exact { h with
      countBound := by
        change (s.cnt + 1#32).toNat ≤ cntMax s.cfg
        omega
      overflowFull := fun ho => absurd (h.overflowFull ho) (Nat.ne_of_lt hc) }
  | edgeFlagged hc => exact { h with overflowFull := fun _ => Nat.le_antisymm h.countBound hc }
  | waitEnded hrun _ ht =>
    have hp : phSample ≠ 0#3 := by decide
    exact (h.toPhase hrun (by decide) hp).setTmr (h.tmr_pred_le ht) fun h0 => absurd h0 hp
  | waitCounted _ _ ht hl => exact h.setTmr (h.tmr_pred_le ht) fun _ => by bv_omega
  | tickIdle => exact h
  | sampled hrun _ hv =>
    have hm : 0 ≤ (zext32 (velq s.cnt.toNat s.cfg.intervalMs.toNat)).toInt := by
      have hn := zext32_toNat (velq s.cnt.toNat s.cfg.intervalMs.toNat) (by omega)
      rw [BitVec.toInt_eq_toNat_of_lt (by omega)]
      exact Int.natCast_nonneg _
    exact (h.flagSaturation.clearCount.setMeas hm).toPhase hrun (by decide) (by decide)
  | terminated => exact h.flagSaturation.clearCount.terminate.raise_num rfl
  | controlled hrun _ hb => exact (h.setController hb _ _).toPhase hrun (by decide) (by decide)
  | driven hrun => exact (h.setDuty _).toPhase hrun (by decide) (by decide)
  | closed hrun =>
    exact { h with
      phaseLegal := Nat.zero_le 4
      stoppedInWait := fun _ => rfl
      runningValid := fun _ => h.runningValid hrun
      numStops := fun hf => by simp [h.numStops hf]
      timerLive := fun _ _ => intervalMs_pos_of_valid (h.runningValid hrun)
      timerBound := Nat.le_refl _
      stopPending := fun hr hs => by simp [show s.stopReq = true from hs] at hr }
  | seqIdle => exact h
  | illegal => exact h.refuse _
  | command _ he => exact he.keeps_inv h

/-- Settles O43: `State.reset` is the reset state of configuration S. -/
theorem resetMeetsTheInvariants : Obligations.ResetMeetsTheInvariants :=
  ⟨resetWith_inv Config.scenario (by decide), resetWith_inv⟩

/-- Settles O44: taking the next agent step keeps the invariants, and so does each effect of that step. -/
theorem everyStepKeepsTheInvariants : Obligations.EveryStepKeepsTheInvariants := by
  intro s t h hs
  obtain ⟨l, n, he⟩ := step_effect hs
  exact he.keeps_inv (h.schedule l n)

/-! ## Progress -/

/-- A live timer counts down. -/
theorem execUWait_of_live (ht : s.tmr ≠ 0#32) : ∃ t, execUWait s = .next t := by
  unfold execUWait
  rw [if_neg ht]
  split
  · exact ⟨_, rfl⟩
  · exact ⟨_, rfl⟩

/-- Under the invariants the micro-operation of every phase of a running loop answers a next state. -/
theorem runTask_seq_of_inv (h : Inv s) : ∃ t, runTask (select .seq s) s = .next t := by
  cases hrun : s.run with
  | false => exact ⟨s, by simp [select, State.seqEnabled, hrun, runTask]⟩
  | true =>
    obtain ⟨hi, hb⟩ := (cfgValid_iff s.cfg).1 (h.runningValid hrun)
    rcases phase_cases s.phase h.phaseLegal with hp | hp | hp | hp | hp <;>
      simp only [select, State.seqEnabled, hrun, hp, decodePhase]
    · exact ⟨s, rfl⟩
    · exact ⟨_, if_neg hi⟩
    · exact ⟨_, if_pos ((boundsOrdered_iff _).2 hb)⟩
    · exact ⟨_, rfl⟩
    · exact ⟨_, execUDiag_eq s⟩

/-- Under the invariants every agent step answers a next state. -/
theorem perform_progress (h : Inv s) (a : AgentStep) : ∃ t, perform a s = .next t := by
  have hlegal : ¬ (4 < s.phase.toNat ∧ a ≠ .reset) := fun hc => Nat.not_lt.2 h.phaseLegal hc.1
  rw [perform, if_neg hlegal]
  cases a with
  | edge => exact ⟨_, rfl⟩
  | reset => exact ⟨_, rfl⟩
  | seq => exact runTask_seq_of_inv h
  | command c =>
    obtain ⟨t, ht, _⟩ := runTask_command c s
    exact ⟨t, ht⟩
  | tick =>
    cases hw : s.waiting with
    | false => exact ⟨s, by simp [select, hw, runTask]⟩
    | true =>
      obtain ⟨hrun, hp⟩ : s.run = true ∧ s.phase = 0#3 := by simpa [State.waiting] using hw
      have ht := h.timerLive hrun hp
      simpa [select, hw, runTask, exec] using execUWait_of_live (s := s) (by bv_omega)

/-- Under the invariants a step answers a next state, which meets them again. -/
theorem step_progress (h : Inv s) : ∃ t, step s = .next t ∧ Inv t := by
  obtain ⟨t, ht⟩ : ∃ t, step s = .next t :=
    perform_progress (s.nextInput_snd ▸ h.schedule s.nextInput.2.inputs s.nextInput.2.envTime) s.nextInput.1
  exact ⟨t, ht, everyStepKeepsTheInvariants s t h ht⟩

/-- Settles O45, by induction on the number of steps: each is answered, and keeps the invariants for the next. -/
theorem runsNeverStop : Obligations.RunsNeverStop := by
  intro s k
  induction k generalizing s with
  | zero => exact fun h => ⟨s, steps_zero s, h⟩
  | succ k ih =>
    intro h
    obtain ⟨u, hu, hinv⟩ := step_progress h
    rw [steps_succ k hu]
    exact ih u hinv

end Sys2Proof.Machine

namespace Sys2Proof.Machine

variable {s t : State} {a : AgentStep} {c : Command} {i : Instr} {n : BitVec 4} {v : Word} {rest : List AgentStep}

/-! ## The next agent step, in a legal phase -/

/-- Settles O34: with nothing scheduled, the next agent step is the environment's. -/
theorem unscheduledStepIsTheEnvironments : Obligations.UnscheduledStepIsTheEnvironments := by
  intro s hin
  rw [step, State.nextInput_of_nil hin]

/-- In a legal phase a scheduled agent step is its task, in the state with the schedule moved on. -/
theorem step_of_scheduled (hin : s.inputs = a :: rest) (hp : s.phase.toNat ≤ 4) :
    step s = runTask (select a { s with inputs := rest }) { s with inputs := rest } := by
  rw [step, State.nextInput_of_cons hin]
  exact if_neg fun hbad => Nat.not_lt.2 hp hbad.1

/-- In a legal phase a scheduled legal command is the operation its word decodes to. -/
theorem step_command_of_ok (hin : s.inputs = .command c :: rest) (hp : s.phase.toNat ≤ 4)
    (hd : decodeCommand c = .ok i) : step s = exec i { s with inputs := rest } := by
  rw [step_of_scheduled hin hp]
  simp only [select, hd, runTask]

/-! ## Reading a register -/

/-- The numbers up to 13 name registers (R37). -/
theorem regOfNumber_isSome_of_le : ∀ n : BitVec 4, n.toNat ≤ 13 → (regOfNumber n.toNat).isSome := by decide

theorem State.regval_of_le (s : State) (hn : n.toNat ≤ 13) : ∃ v, s.regval n = some v := by
  obtain ⟨r, hr⟩ := Option.isSome_iff_exists.1 (regOfNumber_isSome_of_le n hn)
  exact ⟨s.readReg r, by rw [State.regval, hr, Option.map_some]⟩

/-- No register number reads a response latch. -/
@[simp] theorem State.regval_respond_ok (s : State) (r r2 : Word) (n : BitVec 4) :
    (s.respond .ok r r2).regval n = s.regval n := by
  have hread : (s.respond .ok r r2).readReg = s.readReg := by
    funext name
    cases name <;> rfl
  rw [State.regval, State.regval, hread]

/-- `RDREG` of a number that names a register answers its value (R188). -/
theorem execRdreg_of_regval (hv : s.regval n = some v) : execRdreg n s = .next (s.respond .ok v 0#32) := by
  simp only [execRdreg, hv]

/-- Settles O15: the read writes the latches only, no register number reads a latch, and so the second read finds the
value that the first one left in them. -/
theorem registerReadsRepeat : Obligations.RegisterReadsRepeat := by
  intro s n hn
  obtain ⟨v, hv⟩ := s.regval_of_le hn
  have hagain : (s.respond .ok v 0#32).regval n = some v := by rw [State.regval_respond_ok, hv]
  exact ⟨s.respond .ok v 0#32, execRdreg_of_regval hv, execRdreg_of_regval hagain, rfl⟩

/-! ## A read-and-clear and its coincident edge -/

/-- The count 1 always fits (R67). -/
theorem cntMax_pos {c : Config} (hc : c.wf = true) : 0 < cntMax c := by
  have hcw : 1 ≤ c.cw.val := of_decide_eq_true hc
  exact Nat.sub_pos_of_lt (Nat.one_lt_two_pow (Nat.one_le_iff_ne_zero.1 hcw))

/-- An edge below the maximum is counted (R122). -/
theorem State.countEdge_of_lt (hc : s.cnt.toNat < cntMax s.cfg) : s.countEdge = { s with cnt := s.cnt + 1#32 } :=
  if_neg (Nat.not_le.2 hc)

/-- The edge after a read-and-clear is counted, and changes nothing else. -/
theorem step_edge_of_cleared (h : Inv s) (hin : s.inputs = .edge :: rest) (hcnt : s.cnt = 0#32) :
    step s = .next { s with inputs := rest, cnt := 1#32 } := by
  have hroom : s.cnt.toNat < cntMax s.cfg := by
    rw [hcnt]
    exact cntMax_pos h.cwPositive
  calc
    step s = .next ({ s with inputs := rest } : State).countEdge := step_of_scheduled hin h.phaseLegal
    _ = .next { s with inputs := rest, cnt := s.cnt + 1#32 } := congrArg _ (State.countEdge_of_lt hroom)
    _ = .next { s with inputs := rest, cnt := 1#32 } := by rw [hcnt, BitVec.zero_add]

/-- A step that clears the counter, and then the scheduled edge. -/
theorem steps_two_of_cleared (h : Inv s) (hs : step s = .next t) (hin : t.inputs = .edge :: rest)
    (hcnt : t.cnt = 0#32) : steps 2 s = .next { t with inputs := rest, cnt := 1#32 } := by
  rw [steps_succ 1 hs, steps_succ 0 (step_edge_of_cleared (everyStepKeepsTheInvariants s t h hs) hin hcnt), steps_zero]

/-- `RDCLR` of a terminated loop clears the counter and answers what it held (R124). -/
theorem execRdclr_of_stopped (hrun : s.run = false) :
    execRdclr s = .next (s.clearCount.respond .ok s.cnt ((BitVec.ofBool s.ovf).setWidth 32)) := by
  simp [execRdclr, hrun, State.count]

/-- A scheduled sequencer step in `SAMPLE` clears the counter, and leaves in `MEAS` the velocity of the count it
cleared if the loop goes on (R183). -/
theorem step_sample (h : Inv s) (hrun : s.run = true) (hp : s.phase = 1#3) (hin : s.inputs = .seq :: rest) :
    ∃ t, step s = .next t ∧ t.inputs = rest ∧ t.cnt = 0#32 ∧ t.ovf = false ∧
      (t.run = true → t.meas.toNat = velq s.cnt.toNat s.cfg.intervalMs.toNat) := by
  obtain ⟨t, hs, _⟩ := step_progress h
  refine ⟨t, hs, ?_⟩
  rw [step, State.nextInput_of_cons hin] at hs
  cases perform_effect hs with
  | sampled _ _ hv => exact ⟨rfl, rfl, rfl, fun _ => zext32_toNat _ (Nat.lt_of_le_of_lt hv (by decide))⟩
  | terminated => exact ⟨rfl, rfl, rfl, fun hr => absurd hr Bool.false_ne_true⟩
  | controlled _ hp' => simp [hp] at hp'
  | driven _ hp' => simp [hp] at hp'
  | closed _ hp' => simp [hp] at hp'
  | seqIdle hidle => simp [hrun, hp] at hidle

/-- Settles O28: either reader takes the count before the edge and leaves a cleared counter, in which the edge is
counted. -/
theorem readThenEdgeLeavesOne : Obligations.ReadThenEdgeLeavesOne := by
  intro s rest h
  constructor
  · intro c hd hrun hin
    have hs := (step_command_of_ok hin h.phaseLegal hd).trans (execRdclr_of_stopped hrun)
    exact ⟨_, steps_two_of_cleared h hs rfl rfl, rfl, rfl, rfl⟩
  · intro hrun hp hin
    obtain ⟨t, hs, hedge, hcnt, hovf, hmeas⟩ := step_sample h hrun hp hin
    exact ⟨_, steps_two_of_cleared h hs hedge hcnt, rfl, hovf, hmeas⟩

end Sys2Proof.Machine

namespace Sys2Proof.Machine

variable {s : State} {c : Command} {i : Instr} {w : BitVec 8} {op n : BitVec 4} {x y z : Word} {p : BitVec 3}
  {rest : List AgentStep}

/-! ## The command word and its two fields -/

theorem opField_toNat (w : BitVec 8) : (opField w).toNat = w.toNat % 16 := by
  simp [opField, BitVec.extractLsb'_toNat]

theorem rnField_toNat (w : BitVec 8) : (rnField w).toNat = w.toNat / 16 := by
  rw [rnField, BitVec.extractLsb'_toNat, Nat.shiftRight_eq_div_pow]
  exact Nat.mod_eq_of_lt (by omega)

theorem rnField_eq_zero_iff (w : BitVec 8) : rnField w = 0#4 ↔ w.toNat / 16 = 0 := by
  rw [← rnField_toNat]
  exact BitVec.toNat_eq

/-- `rn` stands above `op` (R81). -/
theorem toNat_append_fields (n op : BitVec 4) : (n ++ op).toNat = n.toNat * 16 + op.toNat := by
  rw [BitVec.toNat_append, ← Nat.shiftLeft_add_eq_or_of_lt op.isLt, Nat.shiftLeft_eq]

@[simp] theorem rnField_append_opField (w : BitVec 8) : rnField w ++ opField w = w := by
  apply BitVec.eq_of_toNat_eq
  rw [toNat_append_fields, rnField_toNat, opField_toNat]
  exact Nat.div_add_mod' _ _

@[simp] theorem opField_append (n op : BitVec 4) : opField (n ++ op) = op := by
  apply BitVec.eq_of_toNat_eq
  rw [opField_toNat, toNat_append_fields]
  omega

@[simp] theorem rnField_append (n op : BitVec 4) : rnField (n ++ op) = n := by
  apply BitVec.eq_of_toNat_eq
  rw [rnField_toNat, toNat_append_fields]
  omega

/-- The legal command words (R85): the ten of format `O` and the fourteen of format `R`. -/
abbrev LegalWord (w : Nat) : Prop := (w % 16 ≤ 9 ∧ w / 16 = 0) ∨ (w % 16 = 10 ∧ w / 16 ≤ 13)

/-- A legal word is in one of the two formats (R82). -/
theorem LegalWord.eq_format (h : LegalWord w.toNat) :
    w = if (opField w).toNat = 10 then formatR (rnField w) else formatO (BitVec.ofNat 4 (opField w).toNat) := by
  rw [BitVec.ofNat_toNat, BitVec.setWidth_eq]
  conv_lhs => rw [← rnField_append_opField w]
  split
  next hop => rw [formatR, show opField w = 10#4 from BitVec.eq_of_toNat_eq hop]
  next hop =>
    rw [opField_toNat] at hop
    rw [formatO, (rnField_eq_zero_iff w).2 (by omega)]

/-! ## Decoding a command -/

theorem opcodeMap_of_le {k : Nat} (hk : k ≤ 10) (n : BitVec 4) (x y z : Word) : ∃ i, opcodeMap k n x y z = some i := by
  interval_cases k <;> exact ⟨_, rfl⟩

/-- The decoder of R86 is the opcode map of R83 on the legal words of R85. -/
theorem decodeCommand_ok_iff :
    decodeCommand c = .ok i ↔
      LegalWord c.cmd.toNat ∧ opcodeMap (opField c.cmd).toNat (rnField c.cmd) c.a c.b c.c = some i := by
  constructor
  · refine fun h => ⟨?_, decodeCommand_ok h⟩
    unfold decodeCommand at h
    simp only [opField_toNat, rnField_toNat, ne_eq, rnField_eq_zero_iff] at h
    split_ifs at h
    omega
  · rintro ⟨hlegal, hmap⟩
    unfold decodeCommand
    simp only [hmap]
    simp only [opField_toNat, rnField_toNat, ne_eq, rnField_eq_zero_iff]
    rw [if_neg (by omega), if_neg (by omega), if_neg (by omega)]

theorem exists_decodeCommand_iff (c : Command) : (∃ i, decodeCommand c = .ok i) ↔ LegalWord c.cmd.toNat := by
  constructor
  · rintro ⟨i, h⟩
    exact (decodeCommand_ok_iff.1 h).1
  · intro hlegal
    have hop : (opField c.cmd).toNat ≤ 10 := by
      rw [opField_toNat]
      omega
    obtain ⟨i, hi⟩ := opcodeMap_of_le hop (rnField c.cmd) c.a c.b c.c
    exact ⟨i, decodeCommand_ok_iff.2 ⟨hlegal, hi⟩⟩

/-- Every other word is rejected. -/
theorem decodeCommand_error_of_not_legal (h : ¬ LegalWord c.cmd.toNat) : ∃ r, decodeCommand c = .error r := by
  cases hd : decodeCommand c with
  | ok i => exact absurd ((exists_decodeCommand_iff c).1 ⟨i, hd⟩) h
  | error r => exact ⟨r, rfl⟩

/-- A format `O` word decodes by the opcode map. -/
theorem decodeCommand_formatO (hop : op.toNat ≤ 9) (h : opcodeMap op.toNat 0#4 x y z = some i) :
    decodeCommand ⟨formatO op, x, y, z⟩ = .ok i := by
  have hlegal : LegalWord (formatO op).toNat := by
    rw [LegalWord, ← opField_toNat, ← rnField_toNat, formatO, opField_append, rnField_append]
    exact .inl ⟨hop, rfl⟩
  exact decodeCommand_ok_iff.2 ⟨hlegal, by simpa [formatO] using h⟩

/-- A format `R` word decodes to the read of the register it names. -/
theorem decodeCommand_formatR (hn : n.toNat ≤ 13) (x y z : Word) :
    decodeCommand ⟨formatR n, x, y, z⟩ = .ok (.rdreg n) := by
  have hlegal : LegalWord (formatR n).toNat := by
    rw [LegalWord, ← opField_toNat, ← rnField_toNat, formatR, opField_append, rnField_append]
    exact .inr ⟨rfl, hn⟩
  exact decodeCommand_ok_iff.2 ⟨hlegal, by simp [formatR, opcodeMap]⟩

/-- A reserved `op` is rejected before `rn` is looked at (R86). -/
theorem decodeCommand_of_reservedOp (h : 11 ≤ (opField c.cmd).toNat) : decodeCommand c = .error .reservedOp :=
  if_pos h

/-- Settles O37: each row is a format `O` or a format `R` word. -/
theorem opcodeMapReadsTheOperands : Obligations.OpcodeMapReadsTheOperands := by
  intro a b c
  refine ⟨?_, ?_, ?_, ?_, ?_, ?_, ?_, ?_, ?_, ?_, fun n hn => decodeCommand_formatR hn a b c, fun n op hop => ?_⟩
  · exact decodeCommand_formatO (op := 0#4) (by decide) rfl
  · exact decodeCommand_formatO (op := 1#4) (by decide) rfl
  · exact decodeCommand_formatO (op := 2#4) (by decide) rfl
  · exact decodeCommand_formatO (op := 3#4) (by decide) rfl
  · exact decodeCommand_formatO (op := 4#4) (by decide) rfl
  · exact decodeCommand_formatO (op := 5#4) (by decide) rfl
  · exact decodeCommand_formatO (op := 6#4) (by decide) rfl
  · exact decodeCommand_formatO (op := 7#4) (by decide) rfl
  · exact decodeCommand_formatO (op := 8#4) (by decide) rfl
  · exact decodeCommand_formatO (op := 9#4) (by decide) rfl
  · exact decodeCommand_of_reservedOp (by rwa [opField_append])

/-- Settles O42: the expansions are format `R` words of registers 0 and 1, and the format `O` word of `CLAMP`. -/
theorem pseudoInstructionsExpand : Obligations.PseudoInstructionsExpand :=
  ⟨decodeCommand_formatR (by decide) 0 0 0, decodeCommand_formatR (by decide) 0 0 0,
    fun _ => decodeCommand_formatO (by decide) rfl⟩

/-! ## The encoding of what decodes -/

/-- An operation of the opcode map is well-formed if the register it names exists, and is encoded in the format of its
row, each operand word kept or 0 (R84, R90); the cases stand in the map's order. -/
theorem encode_of_opcodeMap {k : Nat} (h : opcodeMap k n x y z = some i) (hn : k = 10 → n.toNat ≤ 13) :
    i.wf = true ∧ ∃ x' y' z' : Word,
      encode i = .command ⟨if k = 10 then formatR n else formatO (BitVec.ofNat 4 k), x', y', z'⟩ ∧
        (x' = x ∨ x' = 0#32) ∧ (y' = y ∨ y' = 0#32) ∧ (z' = z ∨ z' = 0#32) := by
  unfold opcodeMap at h
  split at h <;> cases h
  · exact ⟨rfl, _, _, _, rfl, .inr rfl, .inr rfl, .inr rfl⟩
  · exact ⟨rfl, _, _, _, rfl, .inl rfl, .inr rfl, .inr rfl⟩
  · exact ⟨rfl, _, _, _, rfl, .inl rfl, .inr rfl, .inr rfl⟩
  · exact ⟨rfl, _, _, _, rfl, .inl rfl, .inl rfl, .inr rfl⟩
  · exact ⟨rfl, _, _, _, rfl, .inl rfl, .inl rfl, .inl rfl⟩
  · exact ⟨rfl, _, _, _, rfl, .inl rfl, .inl rfl, .inr rfl⟩
  · exact ⟨rfl, _, _, _, rfl, .inr rfl, .inr rfl, .inr rfl⟩
  · exact ⟨rfl, _, _, _, rfl, .inl rfl, .inl rfl, .inr rfl⟩
  · exact ⟨rfl, _, _, _, rfl, .inl rfl, .inr rfl, .inr rfl⟩
  · exact ⟨rfl, _, _, _, rfl, .inr rfl, .inr rfl, .inr rfl⟩
  · exact ⟨decide_eq_true (hn rfl), _, _, _, rfl, .inr rfl, .inr rfl, .inr rfl⟩

theorem decodePhase_reserved : ∀ p : BitVec 3, 4 < p.toNat → decodePhase p = .error .reservedPhase := by decide

/-- A `PHASE` that decodes is legal, and is the encoding of its micro-operation. -/
theorem decodePhase_ok (h : decodePhase p = .ok i) : p.toNat ≤ 4 ∧ i.wf = true ∧ encode i = .phase p := by
  have hle : p.toNat ≤ 4 := by
    by_contra hgt
    cases (decodePhase_reserved p (Nat.not_le.1 hgt)).symm.trans h
  refine ⟨hle, ?_⟩
  rcases phase_cases p hle with rfl | rfl | rfl | rfl | rfl <;> cases h <;> exact ⟨rfl, rfl⟩

/-- Settles O36: a word that decodes is legal, so it is the word of its row's format. -/
theorem encodeOfDecodeIsTheWord : Obligations.EncodeOfDecodeIsTheWord := by
  refine ⟨fun c i h => ?_, fun p i h => (decodePhase_ok h).2⟩
  obtain ⟨hlegal, hmap⟩ := decodeCommand_ok_iff.1 h
  have hreg : (opField c.cmd).toNat = 10 → (rnField c.cmd).toNat ≤ 13 := by
    rw [opField_toNat, rnField_toNat]
    omega
  rw [hlegal.eq_format]
  exact encode_of_opcodeMap hmap hreg

/-! ## Illegal command words -/

/-- In a legal phase a scheduled command of an illegal word is refused (R85). -/
theorem step_command_of_illegal (hin : s.inputs = .command c :: rest) (hp : s.phase.toNat ≤ 4)
    (hw : ¬ LegalWord c.cmd.toNat) : step s = .next (({ s with inputs := rest } : State).refuse .errIllegal) := by
  obtain ⟨r, hd⟩ := decodeCommand_error_of_not_legal hw
  rw [step_of_scheduled hin hp]
  simp only [select, hd, runTask]

/-- A table word of eight bits is rejected exactly when it is an illegal command word. -/
theorem decodeTableWord_isNone_iff {k : Nat} (hk : k < 256) :
    (decodeTableWord 8 k).isNone = true ↔ ¬ LegalWord k := by
  have hcmd : (commandOfNat k).cmd.toNat = k := Nat.mod_eq_of_lt hk
  rw [← hcmd, ← exists_decodeCommand_iff]
  cases hd : decodeCommand (commandOfNat k) with
  | ok i => simp [decodeTableWord, codeOfTableWord, decode, hcmd, hd]
  | error r => simp [decodeTableWord, codeOfTableWord, decode, hcmd, hd]

/-- The numbers below `16 * m`, in rows of 16: the command words, a row for each `rn`. -/
theorem range_mul_sixteen (m : Nat) :
    List.range (16 * m) = (List.range m).flatMap fun r => (List.range 16).map (16 * r + ·) := by
  induction m with
  | zero => rfl
  | succ m ih =>
    rw [Nat.mul_succ, List.range_add, ih, List.range_succ (n := m), List.flatMap_append, List.flatMap_singleton]

/-- 232 of the 256 words are not legal (R85), counted in the rows of `rn`. -/
theorem countP_not_legalWord : (List.range 256).countP (fun k => !decide (LegalWord k)) = 232 := by
  rw [range_mul_sixteen 16, List.countP_flatMap]
  decide

/-- Settles O38: each kind of illegal word is not legal, and the words counted are those that are not legal. -/
theorem illegalWordsAreRefused : Obligations.IllegalWordsAreRefused := by
  refine ⟨fun s c rest hin hp hw => ?_, exists_decodeCommand_iff, ?_⟩
  · exact step_command_of_illegal hin hp (by omega)
  · calc
      (List.range 256).countP (fun k => (decodeTableWord 8 k).isNone)
        = (List.range 256).countP (fun k => !decide (LegalWord k)) :=
          List.countP_congr fun k hk => by
            rw [decodeTableWord_isNone_iff (List.mem_range.1 hk), Bool.not_eq_true', decide_eq_false_iff_not]
      _ = 232 := countP_not_legalWord

/-! ## The operation a step runs -/

/-- A scheduled tick in a running wait is `uWAIT` (R87). -/
theorem step_tick_of_waiting (hin : s.inputs = .tick :: rest) (hrun : s.run = true) (hp : s.phase = 0#3) :
    step s = exec .uWait { s with inputs := rest } := by
  rw [step_of_scheduled hin (by simp [hp])]
  simp [select, State.waiting, hrun, hp, runTask]

/-- A scheduled sequencer step of a running loop outside `WAIT` is the micro-operation that `PHASE` selects (R181). -/
theorem step_seq_of_ok (hin : s.inputs = .seq :: rest) (hrun : s.run = true) (hp : s.phase ≠ 0#3)
    (hd : decodePhase s.phase = .ok i) : step s = exec i { s with inputs := rest } := by
  have hle : s.phase.toNat ≤ 4 := (decodePhase_ok hd).1
  have hpos : 1 ≤ s.phase.toNat := by bv_omega
  rw [step_of_scheduled hin hle]
  simp [select, State.seqEnabled, hrun, hle, hpos, hd, runTask]

/-- Settles O39: one rule per agent that performs operations; `WAIT` decodes to `uWAIT` only. -/
theorem stepRunsTheDecodedOperation : Obligations.StepRunsTheDecodedOperation := by
  refine ⟨fun s c rest i => step_command_of_ok, fun s rest i => step_seq_of_ok, fun s rest i hin hrun hp hd => ?_⟩
  rw [hp] at hd
  cases hd
  exact step_tick_of_waiting hin hrun hp

/-- Settles O30: the phases 1 to 4 decode to the micro-operations of the sequencer. -/
theorem phaseSelectsTheMicroOperation : Obligations.PhaseSelectsTheMicroOperation := by
  refine fun s rest hrun => ⟨fun hin => step_tick_of_waiting hin hrun, fun hin => ?_⟩
  have select_phase {p : BitVec 3} {i : Instr} (hne : p ≠ 0#3) (hd : decodePhase p = .ok i) (hp : s.phase = p) :
      step s = exec i { s with inputs := rest } :=
    step_seq_of_ok hin hrun (hp ▸ hne) (hp ▸ hd)
  exact ⟨select_phase (by decide) rfl, select_phase (by decide) rfl, select_phase (by decide) rfl,
    select_phase (by decide) rfl⟩

end Sys2Proof.Machine

namespace Sys2Proof.Machine

variable {s t : State} {a b lo hi : Word} {i : Instr}

/-! ## The pure functions of the numeric core -/

theorem clamp_of_lt {x lo : Int} (h : x < lo) (hi : Int) : clamp x lo hi = lo := if_pos h

theorem clamp_of_gt {x lo hi : Int} (hb : lo ≤ hi) (h : hi < x) : clamp x lo hi = hi := by
  rw [clamp, if_neg (by omega), if_pos h]

theorem clamp_eq_self_iff {lo hi : Int} (x : Int) (hb : lo ≤ hi) : clamp x lo hi = x ↔ lo ≤ x ∧ x ≤ hi := by
  constructor
  · intro h
    exact h ▸ clamp_bounds x lo hi hb
  · rintro ⟨hlo, hhi⟩
    exact clamp_of_mem x lo hi hlo hhi

theorem clamp_mono {x y lo hi : Int} (hb : lo ≤ hi) (h : x ≤ y) : clamp x lo hi ≤ clamp y lo hi := by
  rw [clamp_eq_max_min x lo hi hb, clamp_eq_max_min y lo hi hb]
  exact max_le_max_left lo (min_le_min_right hi h)

theorem clamp_clamp {lo hi : Int} (x : Int) (hb : lo ≤ hi) : clamp (clamp x lo hi) lo hi = clamp x lo hi :=
  (clamp_eq_self_iff _ hb).2 (clamp_bounds x lo hi hb)

theorem mulq_comm (a b : Int) : mulq a b = mulq b a := by
  rw [mulq, mulq, Int.mul_comm]

/-- 1.0 is the identity of `mulq` (R103). -/
theorem mulq_one_fixed (a : Int) : mulq a 65536 = a := mulq_unique a 65536 a (by omega) (by omega)

theorem mulq_zero (a : Int) : mulq a 0 = 0 := mulq_unique a 0 0 (by omega) (by omega)

/-- The rescaled product fits a word exactly where the product fits 48 bits (R107). -/
theorem fitsWord_mulq_iff (a b : Int) : fitsWord (mulq a b) = true ↔ -(2 ^ 47) ≤ a * b ∧ a * b < 2 ^ 47 := by
  have hq := mulq_bounds a b
  rw [fitsWord_iff]
  omega

/-! ## Words and their signed values -/

@[simp] theorem word32_toInt_self (x : Word) : word32 x.toInt = x := BitVec.ofInt_toInt

/-- A value that `fitsWord` accepts is the signed value of its word (R8). -/
theorem word32_toInt_of_fits {z : Int} (h : fitsWord z = true) : (word32 z).toInt = z := by
  obtain ⟨hlo, hhi⟩ := (fitsWord_iff z).1 h
  exact word32_toInt z hlo hhi

/-- The fraction of a word is the remainder of its signed value, and so never negative (R106). -/
theorem fractionOf_toNat (x : Word) : ((fractionOf x).toNat : Int) = x.toInt % 65536 := by
  have hlow : (fractionOf x).toNat = x.toNat % 65536 := by
    simp only [fractionOf, BitVec.toNat_setWidth, BitVec.extractLsb'_toNat, Nat.shiftRight_zero]
    omega
  rw [hlow, BitVec.toInt_eq_toNat_cond]
  split <;> omega

/-- The integer part of a word fits a word. -/
theorem word32_asr16_toInt (x : Word) : (word32 (asr16 x.toInt)).toInt = asr16 x.toInt := by
  have hlo := BitVec.le_toInt x
  have hhi := BitVec.toInt_lt (x := x)
  unfold asr16 floorDiv
  exact word32_toInt _ (by omega) (by omega)

/-- Integer part and fraction give the value back. -/
theorem asr16_add_fractionOf (x : Word) : x.toInt = asr16 x.toInt * 65536 + (fractionOf x).toNat := by
  rw [fractionOf_toNat, asr16, floorDiv, Int.ediv_mul_add_emod]

/-! ## What the commands of the numeric core answer -/

/-- `TOFIX` in the integer range of a FixedPoint word (R105). -/
theorem exec_tofix_of_mem (s : State) (hlo : -32768 ≤ a.toInt) (hhi : a.toInt ≤ 32767) :
    exec (.tofix a) s = .next (s.respond .ok (word32 (a.toInt * 65536)) 0#32) :=
  congrArg _ (if_neg (by omega))

theorem exec_tofix_of_not_mem (s : State) (h : a.toInt < -32768 ∨ 32767 < a.toInt) :
    exec (.tofix a) s = .next (s.refuse .errRange) :=
  congrArg _ (if_pos h)

/-- `MUL` of a product whose rescaled value fits (R107). -/
theorem exec_mul_of_fits (s : State) (h : fitsWord (mulq a.toInt b.toInt) = true) :
    exec (.mul a b) s = .next (s.respond .ok (word32 (mulq a.toInt b.toInt)) 0#32) :=
  congrArg _ (if_pos h)

theorem exec_mul_of_not_fits (s : State) (h : ¬ fitsWord (mulq a.toInt b.toInt) = true) :
    exec (.mul a b) s = .next (s.refuse .errRange) :=
  congrArg _ (if_neg h)

/-- `CLAMP` to bounds in order (R108). -/
theorem exec_clamp_of_ordered (s : State) (x : Word) (h : lo.toInt ≤ hi.toInt) :
    exec (.clamp x lo hi) s = .next (s.respond .ok (word32 (clamp x.toInt lo.toInt hi.toInt)) 0#32) :=
  congrArg _ (if_neg (Int.not_lt.2 h))

theorem exec_clamp_of_inverted (s : State) (x : Word) (h : hi.toInt < lo.toInt) :
    exec (.clamp x lo hi) s = .next (s.refuse .errOrder) :=
  congrArg _ (if_pos h)

/-- What a command without access to the loop leaves (R100): the response latches, or a refusal. -/
inductive LatchEffect (s : State) : State → Prop
  /-- Answered `OK` (R88). -/
  | answered (r r2 : Word) : LatchEffect s (s.respond .ok r r2)
  /-- Refused, with a code other than `OK` (R202). -/
  | refused (e : RespCode) (he : rcWord e ≠ 0#3) : LatchEffect s (s.refuse e)

/-- A command with two branches has a latch effect if each branch has. -/
theorem LatchEffect.ite {p : Prop} [Decidable p] {u : State} (ht : LatchEffect s t) (hu : LatchEffect s u) :
    LatchEffect s (if p then t else u) := by
  split
  · exact ht
  · exact hu

/-- Each of the seven commands that touch no loop state has a latch effect; the cases stand in the list's order. -/
theorem exec_latchEffect (s : State) {a b c : Word} {n : BitVec 4}
    (h : i ∈ [.nop, .tofix a, .fromfix a, .mul a b, .clamp a b c, .vel a b, .rdreg n]) :
    ∃ t, exec i s = .next t ∧ LatchEffect s t := by
  simp only [List.mem_cons, List.not_mem_nil, or_false] at h
  obtain rfl | rfl | rfl | rfl | rfl | rfl | rfl := h
  · exact ⟨_, rfl, .answered _ _⟩
  · exact ⟨_, rfl, .ite (.refused _ (by decide)) (.answered _ _)⟩
  · exact ⟨_, rfl, .answered _ _⟩
  · exact ⟨_, rfl, .ite (.answered _ _) (.refused _ (by decide))⟩
  · exact ⟨_, rfl, .ite (.refused _ (by decide)) (.answered _ _)⟩
  · exact ⟨_, rfl, .ite (.refused _ (by decide)) (.ite (.answered _ _) (.refused _ (by decide)))⟩
  · refine ⟨_, rfl, ?_⟩
    split
    · exact .answered _ _
    · exact .refused _ (by decide)

/-! ## The statements of the fixed-point core -/

/-- Settles O4: `MUL` answers `mulq`, which lies on the product's floor, and refuses exactly where it does not fit. -/
theorem mulTruncatesOrRefuses : Obligations.MulTruncatesOrRefuses := by
  refine ⟨fun _ _ _ => decodeCommand_formatO (op := 3#4) (by decide) rfl,
    fun s a b => ⟨fun hfit => ?_, fun hout => ?_⟩⟩
  · have hword := (fitsWord_mulq_iff a.toInt b.toInt).2 hfit
    obtain ⟨hle, hlt⟩ := mulq_bounds a.toInt b.toInt
    rw [← word32_toInt_of_fits hword] at hle hlt
    exact ⟨_, hle, hlt, exec_mul_of_fits s hword⟩
  · refine exec_mul_of_not_fits s fun hword => ?_
    have hfit := (fitsWord_mulq_iff a.toInt b.toInt).1 hword
    omega

/-- Settles O17: a latch effect is one of the two forms of the statement. -/
theorem pureCommandsTouchTheLatchesOnly : Obligations.PureCommandsTouchTheLatchesOnly := by
  intro s i a b c n hi
  obtain ⟨t, ht, he⟩ := exec_latchEffect s hi
  cases he with
  | answered r r2 => exact ⟨0#3, r, r2, .inl ht⟩
  | refused e hne => exact ⟨rcWord e, s.res, s.res2, .inr ⟨hne, ht⟩⟩

/-- Settles O2: the scaled integer fits a word where `TOFIX` accepts it. -/
theorem tofixScalesOrRefuses : Obligations.TofixScalesOrRefuses := by
  refine ⟨fun _ _ _ => decodeCommand_formatO (op := 1#4) (by decide) rfl,
    fun s a => ⟨?_, exec_tofix_of_not_mem s⟩⟩
  rintro ⟨hlo, hhi⟩
  exact ⟨_, word32_toInt _ (by omega) (by omega), exec_tofix_of_mem s hlo hhi⟩

/-- Settles O3: the integer part is the floored quotient by 65536, the fraction its remainder. -/
theorem fromfixSplitsExactly : Obligations.FromfixSplitsExactly := by
  refine ⟨fun _ _ _ => decodeCommand_formatO (op := 2#4) (by decide) rfl, fun s a => ?_⟩
  have hfrac := fractionOf_toNat a
  refine ⟨word32 (asr16 a.toInt), fractionOf a, ?_, by omega, rfl⟩
  rw [word32_asr16_toInt]
  exact asr16_add_fractionOf a

/-- Settles O5: `CLAMP` answers the word of `clamp`, which in each place of `x` is the signed value of an operand. -/
theorem clampSelectsOrRefuses : Obligations.ClampSelectsOrRefuses := by
  refine ⟨fun _ _ _ => decodeCommand_formatO (op := 4#4) (by decide) rfl,
    fun s x lo hi => ⟨fun hb => ⟨_, exec_clamp_of_ordered s x hb, ?_, ?_, ?_⟩, exec_clamp_of_inverted s x⟩⟩
  · intro hlt
    rw [clamp_of_lt hlt, word32_toInt_self]
  · intro hgt
    rw [clamp_of_gt hb hgt, word32_toInt_self]
  · intro hlo hhi
    rw [clamp_of_mem _ _ _ hlo hhi, word32_toInt_self]

/-- Settles O6, law by law. -/
theorem clampLaws : Obligations.ClampLaws := fun x _ lo hi hb =>
  ⟨fun h => clamp_of_lt h hi, clamp_of_gt hb, clamp_bounds x lo hi hb, clamp_eq_self_iff x hb, clamp_mono hb,
    clamp_clamp x hb⟩

/-- Settles O25: the floor's bounds fix the values at 1.0, at 0 and at the two small products. -/
theorem multiplyLaws : Obligations.MultiplyLaws :=
  ⟨fun a b => ⟨mulq_bounds a b, mulq_comm a b, mulq_one_fixed a, mulq_zero a⟩,
    mulq_unique 1 1 0 (by decide) (by decide), mulq_unique (-1) 1 (-1) (by decide) (by decide)⟩

end Sys2Proof.Machine

namespace Sys2Proof.Machine

variable {s t u : State} {a : AgentStep} {c : Command} {i : Instr} {h : List (AgentStep × State)}

/-! ## What a read-and-clear returns -/

@[simp] theorem readOf_edge (s : State) : readOf (.edge, s) = none := rfl

@[simp] theorem readOf_tick (s : State) : readOf (.tick, s) = none := by
  cases hw : s.waiting <;> simp [readOf, select, hw]

/-- `uSAMPLE` reads and clears (R183). -/
theorem readOf_seq_of_sample (hrun : s.run = true) (hp : s.phase = 1#3) : readOf (.seq, s) = some s.count := by
  simp [readOf, select, State.seqEnabled, decodePhase, hrun, hp]

/-- The micro-operations after `uSAMPLE` read no count. -/
theorem readOf_seq_of_later (hrun : s.run = true) (hp : s.phase = 2#3 ∨ s.phase = 3#3 ∨ s.phase = 4#3) :
    readOf (.seq, s) = none := by
  rcases hp with hp | hp | hp <;> simp [readOf, select, State.seqEnabled, decodePhase, hrun, hp]

theorem readOf_seq_of_idle (hidle : s.run = false ∨ s.phase = 0#3) : readOf (.seq, s) = none := by
  rcases hidle with hi | hi <;> simp [readOf, select, State.seqEnabled, hi]

theorem readOf_command_of_error {r : Reject} (hd : decodeCommand c = .error r) (s : State) :
    readOf (.command c, s) = none := by
  simp [readOf, select, hd]

/-- `RDCLR` of a terminated loop reads and clears, and of a running one it does not (R124). -/
theorem readOf_rdclr (hd : decodeCommand c = .ok .rdclr) (s : State) :
    readOf (.command c, s) = if s.run then none else some s.count := by
  simp [readOf, select, hd]

/-- The commands of the opcode map: those that touch the latches only, and the four that reach further. -/
theorem opcodeMap_cases {op : Nat} {rn : BitVec 4} {x y z : Word} (hmap : opcodeMap op rn x y z = some i) :
    i ∈ [.nop, .tofix x, .fromfix x, .mul x y, .clamp x y z, .vel x y, .rdreg rn] ∨
      i = .rdclr ∨ i = .pistep x y ∨ i = .apply x ∨ i = .cancel := by
  unfold opcodeMap at hmap
  split at hmap <;> cases hmap <;> simp

/-- No command word decodes to the micro-operation that reads a count. -/
theorem decodeCommand_ne_uSample (c : Command) : decodeCommand c ≠ .ok .uSample := by
  intro hd
  simpa using opcodeMap_cases (decodeCommand_ok hd)

/-- No command but `RDCLR` reads a count. -/
theorem readOf_command_of_ne_rdclr (hd : decodeCommand c = .ok i) (hi : i ≠ .rdclr) (s : State) :
    readOf (.command c, s) = none := by
  simp only [readOf, select, hd]
  split
  next hs =>
    cases hs
    exact absurd hd (decodeCommand_ne_uSample c)
  next hr =>
    cases hr
    exact absurd rfl hi
  next => rfl

/-! ## What a step does to the counter -/

/-- Taking the next agent step moves the schedule only. -/
theorem State.nextInput_cnt (s : State) : s.nextInput.2.cnt = s.cnt := by rw [s.nextInput_snd]

theorem State.nextInput_ovf (s : State) : s.nextInput.2.ovf = s.ovf := by rw [s.nextInput_snd]

theorem LatchEffect.keeps_counter (he : LatchEffect s t) : t.cnt = s.cnt ∧ t.ovf = s.ovf := by
  cases he <;> exact ⟨rfl, rfl⟩

/-- Every legal command but `RDCLR` leaves the counter and its flag. -/
theorem exec_keeps_counter (hd : decodeCommand c = .ok i) (hi : i ≠ .rdclr) (he : exec i s = .next t) :
    t.cnt = s.cnt ∧ t.ovf = s.ovf := by
  obtain hpure | rfl | rfl | rfl | rfl := opcodeMap_cases (decodeCommand_ok hd)
  · obtain ⟨u, hu, hl⟩ := exec_latchEffect s hpure
    cases hu.symm.trans he
    exact hl.keeps_counter
  · exact absurd rfl hi
  · cases he
    split
    · exact ⟨rfl, rfl⟩
    · split <;> exact ⟨rfl, rfl⟩
  · cases he
    split <;> exact ⟨rfl, rfl⟩
  · cases (execCancel_eq s).symm.trans he
    exact ⟨rfl, rfl⟩

theorem execRdclr_of_running (hrun : s.run = true) : execRdclr s = .next (s.refuse .errBusy) := by
  simp [execRdclr, hrun]

/-- What an agent step does to `CNT` and `OVF`. -/
inductive CounterEffect (s : State) : AgentStep → State → Prop
  /-- An edge is counted (R122). -/
  | counted {t : State} (hcnt : t.cnt.toNat = s.cnt.toNat + 1) (hovf : t.ovf = s.ovf) : CounterEffect s .edge t
  /-- An edge is lost, and flagged (R122). -/
  | lost {t : State} (hcnt : t.cnt = s.cnt) (hovf : t.ovf = true) : CounterEffect s .edge t
  /-- A read-and-clear returns both (R123). -/
  | cleared {a : AgentStep} {t : State} (ha : a ≠ .edge) (hread : readOf (a, s) = some s.count)
      (hcnt : t.cnt = 0#32) (hovf : t.ovf = false) : CounterEffect s a t
  /-- Nothing. -/
  | kept {a : AgentStep} {t : State} (ha : a ≠ .edge) (hread : readOf (a, s) = none) (hcnt : t.cnt = s.cnt)
      (hovf : t.ovf = s.ovf) : CounterEffect s a t

/-- A legal command reads and clears the counter, or leaves it. -/
theorem exec_counterEffect (hd : decodeCommand c = .ok i) (he : exec i s = .next t) :
    CounterEffect s (.command c) t := by
  by_cases hi : i = .rdclr
  · subst hi
    have hread := readOf_rdclr hd s
    cases hrun : s.run with
    | false =>
      cases (execRdclr_of_stopped hrun).symm.trans he
      exact .cleared nofun (by simpa [hrun] using hread) rfl rfl
    | true =>
      cases (execRdclr_of_running hrun).symm.trans he
      exact .kept nofun (by simpa [hrun] using hread) rfl rfl
  · obtain ⟨hcnt, hovf⟩ := exec_keeps_counter hd hi he
    exact .kept nofun (readOf_command_of_ne_rdclr hd hi s) hcnt hovf

/-- Every agent step but `RESET` counts or flags an edge, reads and clears the counter, or leaves it. -/
theorem perform_counterEffect (hs : perform a s = .next t) (ha : a ≠ .reset) : CounterEffect s a t := by
  cases perform_effect hs with
  | reset => exact absurd rfl ha
  | edgeCounted _ hn => exact .counted hn rfl
  | edgeFlagged => exact .lost rfl rfl
  | waitEnded => exact .kept nofun (readOf_tick s) rfl rfl
  | waitCounted => exact .kept nofun (readOf_tick s) rfl rfl
  | tickIdle => exact .kept nofun (readOf_tick s) rfl rfl
  | sampled hrun hp => exact .cleared nofun (readOf_seq_of_sample hrun hp) rfl rfl
  | terminated hrun hp => exact .cleared nofun (readOf_seq_of_sample hrun hp) rfl rfl
  | controlled hrun hp => exact .kept nofun (readOf_seq_of_later hrun (.inl hp)) rfl rfl
  | driven hrun hp => exact .kept nofun (readOf_seq_of_later hrun (.inr (.inl hp))) rfl rfl
  | closed hrun hp => exact .kept nofun (readOf_seq_of_later hrun (.inr (.inr hp))) rfl rfl
  | seqIdle hidle => exact .kept nofun (readOf_seq_of_idle hidle) rfl rfl
  | illegal hd => exact .kept nofun (readOf_command_of_error hd s) rfl rfl
  | command hd =>
    obtain ⟨hr, _⟩ | ⟨_, _, ht⟩ := perform_next hs
    · cases hr
    · simp only [select, hd, runTask] at ht
      exact exec_counterEffect hd ht

/-! ## The edges, the counts and the flags of a history -/

@[simp] theorem edgesIn_cons (p : AgentStep × State) (h : List (AgentStep × State)) :
    edgesIn (p :: h) = (if p.1 = .edge then 1 else 0) + edgesIn h := by
  simp [edgesIn, List.countP_cons, Nat.add_comm]

theorem countsIn_cons_of_none {p : AgentStep × State} (hp : readOf p = none) (h : List (AgentStep × State)) :
    countsIn (p :: h) = countsIn h := by
  simp [countsIn, hp]

theorem countsIn_cons_of_some {p : AgentStep × State} {r : Word × Bool} (hp : readOf p = some r)
    (h : List (AgentStep × State)) : countsIn (p :: h) = r.1.toNat + countsIn h := by
  simp [countsIn, hp]

theorem overflowIn_cons_of_none {p : AgentStep × State} (hp : readOf p = none) (h : List (AgentStep × State)) :
    overflowIn (p :: h) = overflowIn h := by
  simp [overflowIn, hp]

theorem overflowIn_cons_of_some {p : AgentStep × State} {r : Word × Bool} (hp : readOf p = some r)
    (h : List (AgentStep × State)) : overflowIn (p :: h) = (r.2 || overflowIn h) := by
  simp [overflowIn, hp]

@[simp] theorem resetIn_cons_eq_false (p : AgentStep × State) (h : List (AgentStep × State)) :
    resetIn (p :: h) = false ↔ p.1 ≠ .reset ∧ resetIn h = false := by
  simp [resetIn]

theorem history_succ (k : Nat) (hs : step s = .next u) : history (k + 1) s = s.nextInput :: history k u := by
  simp only [history, hs]

/-- A run of `k + 1` steps that answers a state takes a first step, and `k` from there. -/
theorem step_of_steps_succ {k : Nat} (hs : steps (k + 1) s = .next t) :
    ∃ u, step s = .next u ∧ steps k u = .next t := by
  cases hstep : step s with
  | next u => exact ⟨u, rfl, (steps_succ k hstep).symm.trans hs⟩
  | fault r =>
    have hc : Sys2Proof.core.step s = .fault r := hstep
    simp [steps, Host.Core.run, hc] at hs
  | refused r =>
    have hc : Sys2Proof.core.step s = .refused r := hstep
    simp [steps, Host.Core.run, hc] at hs

/-- The balance of a run from `s` to `t` with the history `h`: the edges and the count it begins with are the counts
returned, the count it ends with, and a number of lost edges; and where the flag is clear at the start, a flag is
returned or left exactly if some edge is lost. -/
def Balanced (h : List (AgentStep × State)) (s t : State) : Prop :=
  ∃ lost, edgesIn h + s.cnt.toNat = countsIn h + t.cnt.toNat + lost ∧
    (overflowIn h = true ∨ t.ovf = true ↔ s.ovf = true ∨ 0 < lost)

theorem Balanced.nil (s : State) : Balanced [] s s := ⟨0, by simp [edgesIn, countsIn], by simp [overflowIn]⟩

/-- One step before a balanced run leaves it balanced. -/
theorem CounterEffect.balanced_cons (he : CounterEffect s a u) (hb : Balanced h u t) : Balanced ((a, s) :: h) s t := by
  obtain ⟨lost, hsum, hflag⟩ := hb
  cases he with
  | counted hcnt hovf =>
    refine ⟨lost, ?_, ?_⟩
    · rw [edgesIn_cons, countsIn_cons_of_none (readOf_edge s), if_pos rfl]
      omega
    · rw [overflowIn_cons_of_none (readOf_edge s), hflag, hovf]
  | lost hcnt hovf =>
    refine ⟨lost + 1, ?_, ?_⟩
    · rw [edgesIn_cons, countsIn_cons_of_none (readOf_edge s), if_pos rfl, ← hcnt]
      omega
    · rw [overflowIn_cons_of_none (readOf_edge s), hflag]
      simp [hovf]
  | cleared ha hread hcnt hovf =>
    have hcounts : countsIn ((a, s) :: h) = s.cnt.toNat + countsIn h := countsIn_cons_of_some hread h
    have hflags : overflowIn ((a, s) :: h) = (s.ovf || overflowIn h) := overflowIn_cons_of_some hread h
    have hzero : u.cnt.toNat = 0 := hcnt ▸ rfl
    refine ⟨lost, ?_, ?_⟩
    · rw [edgesIn_cons, hcounts, if_neg ha]
      omega
    · rw [hflags, Bool.or_eq_true, or_assoc, hflag]
      simp [hovf]
  | kept ha hread hcnt hovf =>
    refine ⟨lost, ?_, ?_⟩
    · rw [edgesIn_cons, countsIn_cons_of_none hread, if_neg ha, ← hcnt]
      omega
    · rw [overflowIn_cons_of_none hread, hflag, hovf]

/-- Every run without a `RESET` is balanced, by induction on its length. -/
theorem history_balanced {k : Nat} (hs : steps k s = .next t) (hr : resetIn (history k s) = false) :
    Balanced (history k s) s t := by
  induction k generalizing s with
  | zero =>
    cases hs
    exact .nil _
  | succ k ih =>
    obtain ⟨u, hu, hrun⟩ := step_of_steps_succ hs
    rw [history_succ k hu, resetIn_cons_eq_false] at hr
    rw [history_succ k hu]
    have hb := (perform_counterEffect hu hr.1).balanced_cons (ih hrun hr.2)
    rwa [Balanced, s.nextInput_cnt, s.nextInput_ovf] at hb

/-- From a cleared counter with a clear flag, no edge is lost exactly if no flag is returned or left. -/
theorem Balanced.of_cleared (hb : Balanced h s t) (hcnt : s.cnt = 0#32) (hovf : s.ovf = false) :
    (overflowIn h = false ∧ t.ovf = false → edgesIn h = countsIn h + t.cnt.toNat) ∧
      (overflowIn h = true ∨ t.ovf = true → countsIn h + t.cnt.toNat < edgesIn h) := by
  obtain ⟨lost, hsum, hflag⟩ := hb
  have hzero : s.cnt.toNat = 0 := hcnt ▸ rfl
  have hlost : overflowIn h = true ∨ t.ovf = true ↔ 0 < lost := by simpa [hovf] using hflag
  constructor
  · rintro ⟨hnone, hclear⟩
    have hkept : ¬ 0 < lost := by simp [← hlost, hnone, hclear]
    omega
  · intro hloss
    have hpos := hlost.1 hloss
    omega

/-- Settles O53: a run from reset is balanced, and begins with a cleared counter and a clear flag. -/
theorem edgesAreConserved : Obligations.EdgesAreConserved :=
  fun _ _ _ _ _ hs hr => (history_balanced hs hr).of_cleared rfl rfl

/-! ## `EDGE` and `RDCLR` -/

/-- Settles O27: the edge is `countEdge`, in the state with the schedule moved on. -/
theorem edgeCountsOrFlags : Obligations.EdgeCountsOrFlags := by
  intro s rest hin hp
  have hs : step s = .next ({ s with inputs := rest } : State).countEdge := step_of_scheduled hin hp
  obtain ⟨hlt, hedge, hn⟩ | ⟨hge, hedge⟩ := ({ s with inputs := rest } : State).countEdge_cases
  · rw [hedge] at hs
    exact ⟨fun _ => ⟨_, hn, hs⟩, fun hfull => absurd hfull (Nat.ne_of_lt hlt)⟩
  · rw [hedge] at hs
    exact ⟨fun hroom => absurd hroom (Nat.not_lt.2 hge), fun _ => hs⟩

/-- Settles O8: one rule for each loop state; the flag is answered as the word 0 or 1. -/
theorem rdclrReturnsAndZeroes : Obligations.RdclrReturnsAndZeroes := by
  refine ⟨fun _ _ _ => decodeCommand_formatO (op := 6#4) (by decide) rfl,
    fun s => ⟨fun hrun => ?_, execRdclr_of_running⟩⟩
  have hword : (BitVec.ofBool s.ovf).setWidth 32 = if s.ovf then 1#32 else 0#32 := by cases s.ovf <;> rfl
  rw [← hword]
  exact execRdclr_of_stopped hrun

end Sys2Proof.Machine

namespace Sys2Proof.Machine

variable {s t : State} {a : AgentStep} {i : Instr} {count interval : Word} {n : Nat} {l rest : List AgentStep}

/-! ## `VEL` -/

/-- A velocity fits exactly below 32768 pulses per second (R136). -/
theorem velFits_velq_iff {count interval : Nat} (hi : 0 < interval) :
    velFits (velq count interval) = true ↔ count * 65536000 < 2 ^ 31 * interval := by
  rw [← Nat.div_lt_iff_lt_mul hi, velFits, velq, decide_eq_true_iff]
  omega

/-- `VEL` of a velocity that fits (R137). -/
theorem exec_vel_of_fits (s : State) (hi : 0 < interval.toNat)
    (hfit : velFits (velq count.toNat interval.toNat) = true) :
    exec (.vel count interval) s = .next (s.respond .ok (zext32 (velq count.toNat interval.toNat)) 0#32) :=
  congrArg _ ((if_neg hi.ne').trans (if_pos hfit))

theorem exec_vel_of_not_fits (s : State) (hi : 0 < interval.toNat)
    (hfit : ¬ velFits (velq count.toNat interval.toNat) = true) :
    exec (.vel count interval) s = .next (s.refuse .errRange) :=
  congrArg _ ((if_neg hi.ne').trans (if_neg hfit))

/-- A zero interval is refused before the velocity is looked at (R203). -/
theorem exec_vel_of_zero (s : State) (count : Word) : exec (.vel count 0#32) s = .next (s.refuse .errDiv0) := rfl

/-- Settles O7: the truncated velocity fits a word exactly where `VEL` answers it; the first case has an interval
above 0, as its premise says something is below it. -/
theorem velConvertsOrRefuses : Obligations.VelConvertsOrRefuses := by
  refine ⟨fun _ _ _ => decodeCommand_formatO (op := 5#4) (by decide) rfl, fun s count interval => ⟨?_, ?_, ?_⟩⟩
  · intro hlow
    have hi : 0 < interval.toNat := by omega
    obtain ⟨hle, hlt⟩ := velq_bounds count.toNat interval.toNat hi
    have hfit := (velFits_velq_iff hi).2 hlow
    have hv : velq count.toNat interval.toNat < 2 ^ 31 := (Nat.div_lt_iff_lt_mul hi).2 hlow
    have hword := zext32_toNat _ (hv.trans (by decide))
    rw [← hword] at hle hlt hv
    exact ⟨_, hle, hlt, hv, exec_vel_of_fits s hi hfit⟩
  · rintro ⟨hne, hhigh⟩
    have hi : 0 < interval.toNat := by bv_omega
    exact exec_vel_of_not_fits s hi fun hfit => Nat.not_lt.2 hhigh ((velFits_velq_iff hi).1 hfit)
  · rintro rfl
    exact exec_vel_of_zero s count

/-! ## A tick -/

/-- `uWAIT` of a live timer counts it down, and leaves the wait with its last tick (R182). -/
theorem execUWait_eq (ht : 1 ≤ s.tmr.toNat) :
    execUWait s = .next { s with tmr := s.tmr - 1#32, phase := if s.tmr.toNat = 1 then phSample else s.phase } := by
  have hlive : s.tmr ≠ 0#32 := by bv_omega
  rw [execUWait, if_neg hlive]
  by_cases hlast : s.tmr.toNat = 1
  · rw [if_pos (by bv_omega), if_pos hlast]
    rfl
  · rw [if_neg (by bv_omega), if_neg hlast]
    rfl

/-- A scheduled tick outside a running wait has no effect (R138). -/
theorem step_tick_of_idle (hin : s.inputs = .tick :: rest) (hp : s.phase.toNat ≤ 4)
    (hidle : s.run = false ∨ s.phase ≠ 0#3) : step s = .next { s with inputs := rest } := by
  have hw : ({ s with inputs := rest } : State).waiting = false := by
    rcases hidle with hrun | hne
    · simp [State.waiting, hrun]
    · simp [State.waiting, hne]
  rw [step_of_scheduled hin hp]
  simp [select, hw, runTask]

/-- Settles O29: in a running wait the tick is `uWAIT`, elsewhere it is idle. -/
theorem tickActsInTheWaitOnly : Obligations.TickActsInTheWaitOnly := by
  refine fun s rest hin hlegal => ⟨fun hrun hp ht => ⟨s.tmr - 1#32, by bv_omega, ?_⟩, step_tick_of_idle hin hlegal⟩
  rw [step_tick_of_waiting hin hrun hp, ← hp]
  exact execUWait_eq (s := { s with inputs := rest }) ht

/-! ## The length of a wait -/

/-- A running wait with `n` ticks left. -/
structure WaitsFor (n : Nat) (s : State) : Prop where
  running : s.run = true
  inWait : s.phase = 0#3
  left : s.tmr.toNat = n

/-- An agent step that does not end a wait early: neither `RESET` nor `CANCEL`. -/
def SparesWait (a : AgentStep) : Prop := a ≠ .reset ∧ ∀ c, a = .command c → decodeCommand c ≠ .ok .cancel

theorem CommandEffect.inputs_eq (h : CommandEffect i s t) : t.inputs = s.inputs := by
  cases h <;> rfl

/-- No agent step writes the schedule; taking it is what moves the schedule on. -/
theorem StepEffect.inputs_eq (h : StepEffect s a t) : t.inputs = s.inputs := by
  cases h with
  | command _ he => exact he.inputs_eq
  | _ => rfl

/-- In a running wait only `RESET`, `CANCEL` and a tick reach `RUN`, `PHASE` or `TMR`. -/
theorem StepEffect.keeps_wait (h : StepEffect s a t) (hw : WaitsFor n s) (ha : SparesWait a) (hne : a ≠ .tick) :
    WaitsFor n t := by
  obtain ⟨hrun, hp, hn⟩ := hw
  cases h with
  | reset => exact absurd rfl ha.1
  | edgeCounted => exact ⟨hrun, hp, hn⟩
  | edgeFlagged => exact ⟨hrun, hp, hn⟩
  | waitEnded => exact absurd rfl hne
  | waitCounted => exact absurd rfl hne
  | tickIdle => exact absurd rfl hne
  | sampled _ hp' => simp [hp] at hp'
  | terminated _ hp' => simp [hp] at hp'
  | controlled _ hp' => simp [hp] at hp'
  | driven _ hp' => simp [hp] at hp'
  | closed _ hp' => simp [hp] at hp'
  | seqIdle => exact ⟨hrun, hp, hn⟩
  | illegal => exact ⟨hrun, hp, hn⟩
  | command hd he =>
    obtain ⟨hframe, _, hother⟩ := he.frame_of_running hrun
    obtain ⟨hrun', _⟩ := hother fun hi => ha.2 _ rfl (hi ▸ hd)
    rw [hframe]
    exact ⟨hrun', hp, hn⟩

/-- A scheduled tick of a wait that has further ticks left takes one of them. -/
theorem step_tick_of_waitsFor (hw : WaitsFor (n + 1) s) (hn : 0 < n) (hin : s.inputs = .tick :: rest) :
    ∃ t, step s = .next t ∧ t.inputs = rest ∧ WaitsFor n t := by
  obtain ⟨hrun, hp, hleft⟩ := hw
  obtain ⟨m, hm, hs⟩ := (tickActsInTheWaitOnly s rest hin (by simp [hp])).1 hrun hp (by omega)
  rw [if_neg (by omega)] at hs
  exact ⟨_, hs, rfl, hrun, rfl, Nat.succ.inj (hm.trans hleft)⟩

/-- Any other scheduled step that spares the wait leaves it all its ticks. -/
theorem step_other_of_waitsFor (hinv : Inv s) (hw : WaitsFor n s) (hin : s.inputs = a :: rest) (ha : SparesWait a)
    (hne : a ≠ .tick) : ∃ t, step s = .next t ∧ t.inputs = rest ∧ WaitsFor n t := by
  obtain ⟨t, hs, _⟩ := step_progress hinv
  have he : StepEffect { s with inputs := rest } a t :=
    perform_effect (by rwa [step, State.nextInput_of_cons hin] at hs)
  exact ⟨t, hs, he.inputs_eq, he.keeps_wait ⟨hw.running, hw.inWait, hw.left⟩ ha hne⟩

/-- A schedule that spares the wait takes one of its ticks for each `TICK` in it, by induction on the schedule. -/
theorem steps_of_waitsFor (hinv : Inv s) (hw : WaitsFor (n + l.count .tick) s) (hn : 0 < n)
    (hin : s.inputs = l ++ rest) (hl : ∀ a ∈ l, SparesWait a) :
    ∃ t, steps l.length s = .next t ∧ t.inputs = rest ∧ WaitsFor n t := by
  induction l generalizing s with
  | nil => exact ⟨s, steps_zero s, hin, hw⟩
  | cons a l ih =>
    obtain ⟨u, hs, hmoved, hwait⟩ :
        ∃ u, step s = .next u ∧ u.inputs = l ++ rest ∧ WaitsFor (n + l.count .tick) u := by
      by_cases ha : a = .tick
      · subst ha
        rw [List.count_cons_self, ← Nat.add_assoc] at hw
        exact step_tick_of_waitsFor hw (by omega) hin
      · rw [List.count_cons_of_ne ha] at hw
        exact step_other_of_waitsFor hinv hw hin (hl a List.mem_cons_self) ha
    obtain ⟨t, hrun, ht⟩ := ih (everyStepKeepsTheInvariants s u hinv hs) hwait hmoved fun b hb =>
      hl b (List.mem_cons_of_mem a hb)
    exact ⟨t, (steps_succ l.length hs).trans hrun, ht⟩

/-- Settles O54: the schedule leaves the wait the ticks it does not take; with one left, the next tick ends it. -/
theorem waitLastsItsTicks : Obligations.WaitLastsItsTicks := by
  refine fun s l rest hinv hrun hp hin hl => ⟨fun hlt => ?_, fun hlast htick => ?_⟩
  · obtain ⟨t, hs, _, hrun', hp', hleft⟩ := steps_of_waitsFor (n := s.tmr.toNat - l.count .tick) hinv
      ⟨hrun, hp, by omega⟩ (by omega) hin hl
    exact ⟨t, hs, hrun', hp', by omega⟩
  · obtain ⟨u, hs, hin', hrun', hp', hleft⟩ := steps_of_waitsFor (n := 1) hinv ⟨hrun, hp, by omega⟩ one_pos hin hl
    obtain ⟨rest', rfl⟩ := List.head?_eq_some_iff.1 htick
    obtain ⟨m, hm, hu⟩ := (tickActsInTheWaitOnly u rest' hin' (by simp [hp'])).1 hrun' hp' (by omega)
    rw [if_pos hleft] at hu
    exact ⟨_, (steps_trans l.length 1 hs).trans (steps_succ 0 hu), hrun', rfl, by bv_omega⟩

end Sys2Proof.Machine

namespace Sys2Proof.Machine

variable {s t : State} {a b : Word} {c : Command} {i : Instr} {ag : AgentStep} {k : Nat} {rest : List AgentStep}

/-! ## The values of a controller step -/

/-- The exact error of two words (R150, step 1). -/
theorem abs_sub_toInt_le (x y : Word) : |x.toInt - y.toInt| ≤ 2 ^ 32 - 1 := by
  have hxlo := BitVec.le_toInt x
  have hxhi := BitVec.toInt_lt (x := x)
  have hylo := BitVec.le_toInt y
  have hyhi := BitVec.toInt_lt (x := y)
  rw [abs_le]
  omega

theorem abs_toInt_le (x : Word) : |x.toInt| ≤ 2 ^ 31 := by
  have hlo := BitVec.le_toInt x
  have hhi := BitVec.toInt_lt (x := x)
  rw [abs_le]
  omega

/-- A gain times an exact error (R150, step 2). -/
theorem abs_gain_mul_error_lt (gain x y : Word) : |gain.toInt * (x.toInt - y.toInt)| < 2 ^ 63 :=
  calc
    |gain.toInt * (x.toInt - y.toInt)| = |gain.toInt| * |x.toInt - y.toInt| := abs_mul _ _
    _ ≤ 2 ^ 31 * (2 ^ 32 - 1) :=
      mul_le_mul (abs_toInt_le gain) (abs_sub_toInt_le x y) (abs_nonneg _) (by decide)
    _ < 2 ^ 63 := by decide

/-- Rescaling a product takes 16 bits off its bound. -/
theorem abs_mulq_le {x y : Int} (h : |x * y| < 2 ^ 63) : |mulq x y| ≤ 2 ^ 47 := by
  have hq := mulq_bounds x y
  rw [abs_lt] at h
  rw [abs_le]
  omega

/-- Clamping after the first of `k + 1` equal terms changes nothing: all have one sign, so a sum that the first clamp
cuts stays beyond that bound. -/
theorem clamp_clamp_add_mul {x lo hi : Int} (term : Int) (k : Nat) (hlo : lo ≤ x) (hhi : x ≤ hi) :
    clamp (clamp (x + term) lo hi + k * term) lo hi = clamp (x + (k + 1 : Nat) * term) lo hi := by
  have hb : lo ≤ hi := hlo.trans hhi
  have hsplit : ((k + 1 : Nat) : Int) * term = k * term + term := by rw [Nat.cast_succ, add_one_mul]
  rw [hsplit, clamp_eq_max_min _ lo hi hb, clamp_eq_max_min _ lo hi hb, clamp_eq_max_min _ lo hi hb]
  obtain hpos | hneg := le_total 0 term
  · have hmore : 0 ≤ k * term := mul_nonneg (Int.natCast_nonneg k) hpos
    omega
  · have hmore : k * term ≤ 0 := mul_nonpos_of_nonneg_of_nonpos (Int.natCast_nonneg k) hneg
    omega

/-- The stored integral is the clamp of the exact sum (R152). -/
theorem State.piWords_integ_toInt (s : State) (a b : Word) (hb : s.cfg.imin.toInt ≤ s.cfg.imax.toInt) :
    (s.piWords a b).1.toInt =
      clamp (s.integ.toInt + mulq s.cfg.ki.toInt (a.toInt - b.toInt)) s.cfg.imin.toInt s.cfg.imax.toInt :=
  (s.piWords_toInt a b hb).1

/-- The output is the clamp of the proportional term plus the stored integral (R153, R154). -/
theorem State.piWords_out_toInt (s : State) (a b : Word) (hb : s.cfg.imin.toInt ≤ s.cfg.imax.toInt) :
    (s.piWords a b).2.toInt =
      clamp (mulq s.cfg.kp.toInt (a.toInt - b.toInt) + (s.piWords a b).1.toInt) 0 6553600 := by
  obtain ⟨hinteg, hout⟩ := s.piWords_toInt a b hb
  rw [hout, hinteg]
  rfl

theorem State.piWords_integ_bounds (s : State) (a b : Word) (hb : s.cfg.imin.toInt ≤ s.cfg.imax.toInt) :
    s.cfg.imin.toInt ≤ (s.piWords a b).1.toInt ∧ (s.piWords a b).1.toInt ≤ s.cfg.imax.toInt := by
  rw [s.piWords_integ_toInt a b hb]
  exact clamp_bounds _ _ _ hb

theorem State.piWords_out_bounds (s : State) (a b : Word) (hb : s.cfg.imin.toInt ≤ s.cfg.imax.toInt) :
    0 ≤ (s.piWords a b).2.toInt ∧ (s.piWords a b).2.toInt ≤ 6553600 := by
  rw [s.piWords_out_toInt a b hb]
  exact clamp_bounds _ _ _ (by decide)

/-! ## What `PISTEP` and `uPI` answer -/

/-- `PISTEP` of a terminated loop with its bounds in order (R156). -/
theorem exec_pistep_of_ordered (a b : Word) (hrun : s.run = false) (hb : s.cfg.imin.toInt ≤ s.cfg.imax.toInt) :
    exec (.pistep a b) s = .next ((s.setController (s.piWords a b).1 (s.piWords a b).2).respond .ok
      (s.piWords a b).2 (s.piWords a b).1) :=
  congrArg _ ((if_neg (ne_true_of_eq_false hrun)).trans (if_pos ((boundsOrdered_iff _).2 hb)))

theorem exec_pistep_of_inverted (a b : Word) (hrun : s.run = false) (hb : s.cfg.imax.toInt < s.cfg.imin.toInt) :
    exec (.pistep a b) s = .next (s.refuse .errOrder) :=
  congrArg _ ((if_neg (ne_true_of_eq_false hrun)).trans
    (if_neg fun ho => Int.not_le.2 hb ((boundsOrdered_iff _).1 ho)))

/-- A running loop refuses `PISTEP` before its bounds are looked at (R203). -/
theorem exec_pistep_of_running (a b : Word) (hrun : s.run = true) :
    exec (.pistep a b) s = .next (s.refuse .errBusy) :=
  congrArg _ (if_pos hrun)

/-- `uPI` with the bounds in order (R184). -/
theorem exec_uPi_of_ordered (hb : s.cfg.imin.toInt ≤ s.cfg.imax.toInt) :
    exec .uPi s = .next ((s.setController (s.piWords s.cfg.target s.meas).1
      (s.piWords s.cfg.target s.meas).2).toPhase phApply) :=
  if_pos ((boundsOrdered_iff _).2 hb)

/-! ## The integral over a run of `PISTEP`s -/

/-- A scheduled `PISTEP` of a terminated loop adds its term to the integral, clamps the sum, and leaves the loop as the
next one finds it. -/
theorem step_pistep (hd : decodeCommand c = .ok (.pistep a b)) (hrun : s.run = false) (hp : s.phase = 0#3)
    (hb : s.cfg.imin.toInt ≤ s.cfg.imax.toInt) (hin : s.inputs = .command c :: rest) :
    ∃ u, step s = .next u ∧ u.inputs = rest ∧ u.cfg = s.cfg ∧ u.run = false ∧ u.phase = 0#3 ∧
      u.integ.toInt =
        clamp (s.integ.toInt + mulq s.cfg.ki.toInt (a.toInt - b.toInt)) s.cfg.imin.toInt s.cfg.imax.toInt := by
  have hs := (step_command_of_ok hin (by simp [hp]) hd).trans
    (exec_pistep_of_ordered (s := { s with inputs := rest }) a b hrun hb)
  exact ⟨_, hs, rfl, rfl, hrun, hp, State.piWords_integ_toInt { s with inputs := rest } a b hb⟩

/-- `k` `PISTEP`s of the same operands leave the clamp of the integral plus `k` times their term (R158), by induction on
`k`. -/
theorem steps_pistep (hd : decodeCommand c = .ok (.pistep a b)) (hrun : s.run = false) (hp : s.phase = 0#3)
    (hlo : s.cfg.imin.toInt ≤ s.integ.toInt) (hhi : s.integ.toInt ≤ s.cfg.imax.toInt)
    (hin : s.inputs = List.replicate k (.command c) ++ rest) :
    ∃ t, steps k s = .next t ∧
      t.integ.toInt =
        clamp (s.integ.toInt + k * mulq s.cfg.ki.toInt (a.toInt - b.toInt)) s.cfg.imin.toInt s.cfg.imax.toInt := by
  induction k generalizing s with
  | zero =>
    refine ⟨s, steps_zero s, ?_⟩
    rw [Nat.cast_zero, zero_mul, add_zero, clamp_of_mem _ _ _ hlo hhi]
  | succ k ih =>
    have hb : s.cfg.imin.toInt ≤ s.cfg.imax.toInt := hlo.trans hhi
    obtain ⟨u, hs, hmoved, hcfg, hrun', hp', hinteg⟩ := step_pistep hd hrun hp hb hin
    have hmem := clamp_bounds (s.integ.toInt + mulq s.cfg.ki.toInt (a.toInt - b.toInt)) _ _ hb
    rw [← hinteg, ← hcfg] at hmem
    obtain ⟨t, hrest, ht⟩ := ih hrun' hp' hmem.1 hmem.2 hmoved
    refine ⟨t, (steps_succ k hs).trans hrest, ?_⟩
    rw [ht, hinteg, hcfg, clamp_clamp_add_mul _ k hlo hhi]

/-- Settles O26: after `k` steps the integral is the clamp of its start plus `k` terms, on which only the bound on the
term's side can act. -/
theorem integralWindsUpThenPins : Obligations.IntegralWindsUpThenPins := by
  intro s a b c term k rest hd hrun hp hlo hhi hle hlt hin
  obtain ⟨t, hs, ht⟩ := steps_pistep hd hrun hp hlo hhi hin
  rw [mulq_unique _ _ _ hle hlt, clamp_eq_max_min _ _ _ (hlo.trans hhi)] at ht
  refine ⟨fun hup => ⟨t, hs, ?_⟩, fun hrest => ⟨t, hs, ?_⟩, fun hdown => ⟨t, hs, ?_⟩⟩
  · have hrise : (k : Int) ≤ k * term := le_mul_of_one_le_right (Int.natCast_nonneg k) hup
    omega
  · rw [hrest, mul_zero, add_zero, min_eq_left hhi, max_eq_right hlo] at ht
    exact BitVec.eq_of_toInt_eq ht
  · have hfall : k * term ≤ -(k : Int) := by
      rw [← mul_neg_one]
      exact mul_le_mul_of_nonneg_left hdown (Int.natCast_nonneg k)
    omega

/-! ## The statements of the controller step -/

/-- Settles O10: the two products are `mulq`, the two clamps are those of the words that are stored. -/
theorem pistepComputesTheStep : Obligations.PistepComputesTheStep := by
  refine ⟨fun _ _ _ => decodeCommand_formatO (op := 7#4) (by decide) rfl,
    fun s a b => ⟨fun hrun hb => ?_, exec_pistep_of_inverted a b, exec_pistep_of_running a b⟩⟩
  obtain ⟨hple, hplt⟩ := mulq_bounds s.cfg.kp.toInt (a.toInt - b.toInt)
  obtain ⟨htle, htlt⟩ := mulq_bounds s.cfg.ki.toInt (a.toInt - b.toInt)
  refine ⟨_, _, (s.piWords a b).1, (s.piWords a b).2, hple, hplt, htle, htlt, ?_, ?_,
    exec_pistep_of_ordered a b hrun hb⟩
  · rw [s.piWords_integ_toInt a b hb, clamp_eq_max_min _ _ _ hb]
  · rw [s.piWords_out_toInt a b hb, clamp_eq_max_min _ _ _ (by decide)]

/-- The integral is in its bounds (R39(d)). -/
abbrev State.IntegBounded (s : State) : Prop :=
  s.cfg.imin.toInt ≤ s.integ.toInt ∧ s.integ.toInt ≤ s.cfg.imax.toInt

/-- Of the effects of a command only the one of `PISTEP` writes the integral. -/
theorem CommandEffect.keeps_integBounded (he : CommandEffect i s t) (h : s.IntegBounded) : t.IntegBounded := by
  cases he with
  | controlled _ hb a b => exact s.piWords_integ_bounds a b hb
  | refused | answered | cleared | driven | cancelled => exact h

/-- Of the effects of a step but `RESET` only those of `uPI` and `PISTEP` write the integral. -/
theorem StepEffect.keeps_integBounded (he : StepEffect s ag t) (ha : ag ≠ .reset) (h : s.IntegBounded) :
    t.IntegBounded := by
  cases he with
  | reset => exact absurd rfl ha
  | controlled _ _ hb => exact s.piWords_integ_bounds s.cfg.target s.meas hb
  | command _ he => exact he.keeps_integBounded h
  | edgeCounted | edgeFlagged | waitEnded | waitCounted | tickIdle | sampled | terminated | driven | closed | seqIdle
    | illegal => exact h

/-- Settles O23: a controller step stores clamped words, and every other step but `RESET` leaves the integral. -/
theorem controllerResultsStayInBounds : Obligations.ControllerResultsStayInBounds := by
  refine fun s a b hb => ⟨?_, fun hrun => ?_, fun t hs ha hlo hhi => ?_⟩
  · obtain ⟨ilo, ihi⟩ := s.piWords_integ_bounds s.cfg.target s.meas hb
    exact ⟨_, exec_uPi_of_ordered hb, ilo, ihi, s.piWords_out_bounds s.cfg.target s.meas hb⟩
  · obtain ⟨ilo, ihi⟩ := s.piWords_integ_bounds a b hb
    exact ⟨_, exec_pistep_of_ordered a b hrun hb, ilo, ihi, s.piWords_out_bounds a b hb⟩
  · obtain ⟨l, n, he⟩ := step_effect hs
    exact he.keeps_integBounded ha ⟨hlo, hhi⟩

/-- Settles O24: a word and an error of two words bound the product, and the product bounds what follows from it. -/
theorem controllerIntermediatesFit : Obligations.ControllerIntermediatesFit := by
  intro gain integ target measured
  have hproduct := abs_gain_mul_error_lt gain target measured
  have hscaled := abs_mulq_le hproduct
  exact ⟨abs_sub_toInt_le target measured, hproduct, hscaled,
    (abs_add_le _ _).trans (add_le_add hscaled (abs_toInt_le integ))⟩

end Sys2Proof.Machine

namespace Sys2Proof.Machine

variable {s : State} {p q : Int}

/-! ## The duty map -/

/-- `dutyq` as one floor of exact integers (R171). -/
theorem dutyq_eq_ediv (c : Config) (p : Int) :
    (dutyq c p : Int) = max 0 (min p 6553600) * c.dutyMax.toNat / 6553600 := by
  have hpos := (clamp_bounds p 0 fullScale (by decide)).1
  rw [dutyq, Int.natCast_ediv, Nat.cast_mul, Int.toNat_of_nonneg hpos, clamp_eq_max_min _ _ _ (by decide)]
  rfl

/-- `dutyq` is the whole quotient, truncated once (R171). -/
theorem dutyq_bounds (c : Config) (p : Int) :
    (dutyq c p : Int) * 6553600 ≤ max 0 (min p 6553600) * c.dutyMax.toNat ∧
      max 0 (min p 6553600) * c.dutyMax.toNat < ((dutyq c p : Int) + 1) * 6553600 := by
  rw [dutyq_eq_ediv]
  exact ⟨Int.ediv_mul_le _ (by decide), Int.lt_ediv_add_one_mul_self _ (by decide)⟩

/-- The product that `dutyq` divides needs 55 bits: a percentage below `2^23` times a word (R171). -/
theorem max_min_mul_dutyMax_lt (c : Config) (p : Int) : max 0 (min p 6553600) * c.dutyMax.toNat < 2 ^ 55 := by
  have hword : (c.dutyMax.toNat : Int) < 2 ^ 32 := by exact_mod_cast c.dutyMax.isLt
  calc max 0 (min p 6553600) * c.dutyMax.toNat
      ≤ 6553600 * c.dutyMax.toNat := Int.mul_le_mul_of_nonneg_right (by omega) (Int.natCast_nonneg _)
    _ < 2 ^ 55 := by omega

theorem dutyq_mono (c : Config) (h : p ≤ q) : dutyq c p ≤ dutyq c q :=
  Nat.div_le_div_right (Nat.mul_le_mul_right _ (Int.toNat_le_toNat (clamp_mono (by decide) h)))

theorem dutyq_of_nonpos (c : Config) (h : p ≤ 0) : dutyq c p = 0 := by
  have hcast := dutyq_eq_ediv c p
  rw [max_eq_left ((min_le_left _ _).trans h), zero_mul, Int.zero_ediv] at hcast
  exact_mod_cast hcast

theorem dutyq_of_full (c : Config) (h : 6553600 ≤ p) : dutyq c p = c.dutyMax.toNat := by
  have hcast := dutyq_eq_ediv c p
  rw [min_eq_right h, max_eq_right (by decide), Int.mul_ediv_cancel_left _ (by decide)] at hcast
  exact_mod_cast hcast

/-- Settles O12: the laws of a floor, and the two saturated ends. -/
theorem dutyMapLaws : Obligations.DutyMapLaws := fun c p _ =>
  ⟨dutyq_bounds c p, max_min_mul_dutyMax_lt c p, dutyq_mono c, dutyq_of_nonpos c, dutyq_of_full c, dutyq_le c p⟩

/-! ## `APPLY` -/

/-- The duty word is the whole quotient of `dutyq`: no bit is lost on the way to the register. -/
theorem State.dutyWord_bounds (s : State) (a : Word) :
    ((s.dutyWord a).toNat : Int) * 6553600 ≤ max 0 (min a.toInt 6553600) * s.cfg.dutyMax.toNat ∧
      max 0 (min a.toInt 6553600) * s.cfg.dutyMax.toNat < (((s.dutyWord a).toNat : Int) + 1) * 6553600 := by
  rw [s.dutyWord_toNat]
  exact dutyq_bounds s.cfg a.toInt

/-- `APPLY` of a terminated loop (R172). -/
theorem exec_apply_of_stopped (a : Word) (hrun : s.run = false) :
    exec (.apply a) s = .next ((s.setDuty (s.dutyWord a)).respond .ok (s.dutyWord a) 0#32) :=
  congrArg _ (if_neg (ne_true_of_eq_false hrun))

theorem exec_apply_of_running (a : Word) (hrun : s.run = true) : exec (.apply a) s = .next (s.refuse .errBusy) :=
  congrArg _ (if_pos hrun)

/-- Settles O11: the word that is driven and answered is the duty word. -/
theorem applyScalesTheDuty : Obligations.ApplyScalesTheDuty := by
  refine ⟨fun _ _ _ => decodeCommand_formatO (op := 8#4) (by decide) rfl,
    fun s a => ⟨fun hrun => ?_, exec_apply_of_running a⟩⟩
  obtain ⟨hle, hlt⟩ := s.dutyWord_bounds a
  exact ⟨s.dutyWord a, hle, hlt, exec_apply_of_stopped a hrun⟩

end Sys2Proof.Machine

namespace Sys2Proof.Machine

variable {s t u : State} {a : AgentStep} {c : Command} {i : Instr} {n : BitVec 4} {l l1 l2 l3 rest : List AgentStep}

/-! ## `NOP`, `CANCEL` and `RDREG` -/

/-- Settles O1: the word decodes by the opcode map, and the answer is the response with two zero words. -/
theorem nopWritesTheLatches : Obligations.NopWritesTheLatches :=
  ⟨fun _ _ _ => decodeCommand_formatO (op := 0#4) (by decide) rfl,
    fun s => congrArg Host.Outcome.next (State.respond_ok_eq 0#32 0#32 s)⟩

/-- Settles O13: both forms of `RUN` clear it in `WAIT` and keep it elsewhere. -/
theorem cancelRequestsTheStop : Obligations.CancelRequestsTheStop := by
  refine ⟨fun _ _ _ => decodeCommand_formatO (op := 9#4) (by decide) rfl, fun s => ?_⟩
  have hrun : (if s.phase = 0#3 then false else s.run) = (s.run && !decide (s.phase = phWait)) := by
    by_cases hp : s.phase = 0#3 <;> simp [hp]
  rw [hrun]
  exact execCancel_eq s

/-- The register table (R37). -/
theorem State.regval_of_mem_table (s : State) :
    ∀ p ∈ [(0#4, s.statusWord), (1#4, s.faultWord), (2#4, s.cfg.kp), (3#4, s.cfg.ki), (4#4, s.cfg.imin),
      (5#4, s.cfg.imax), (6#4, s.cfg.target), (7#4, s.cfg.intervalMs), (8#4, s.cfg.dutyMax), (9#4, s.integ),
      (10#4, s.meas), (11#4, s.out), (12#4, s.duty), (13#4, s.tmr)], s.regval p.1 = some p.2 := by
  simp [State.regval, regOfNumber, State.readReg]

/-- The numbers 14 and 15 name no register (R37). -/
theorem regOfNumber_eq_none_of_le : ∀ n : BitVec 4, 14 ≤ n.toNat → regOfNumber n.toNat = none := by decide

/-- `RDREG` of a number that names no register is refused (R188). -/
theorem execRdreg_of_reserved (s : State) (hn : 14 ≤ n.toNat) : execRdreg n s = .next (s.refuse .errIllegal) := by
  simp only [execRdreg, State.regval, regOfNumber_eq_none_of_le n hn, Option.map_none]

/-- Settles O14: each row of the table is a register that a number names. -/
theorem rdregReadsTheTable : Obligations.RdregReadsTheTable :=
  ⟨fun _ a b c hn => decodeCommand_formatR hn a b c,
    fun s _ => ⟨fun _ hrow => execRdreg_of_regval (s.regval_of_mem_table _ hrow), execRdreg_of_reserved s⟩⟩

/-! ## The micro-operations -/

/-- A velocity fits a word exactly below 32768 pulses per second (R136). -/
theorem velq_le_iff {count interval : Nat} (hi : 0 < interval) :
    velq count interval ≤ 2147483647 ↔ count * 65536000 < 2 ^ 31 * interval := by
  rw [← velFits_velq_iff hi, velFits, decide_eq_true_iff]
  rfl

/-- `uSAMPLE` of a velocity that fits (R183). -/
theorem exec_uSample_of_fits (hi : s.cfg.intervalMs ≠ 0#32)
    (hv : velq s.cnt.toNat s.cfg.intervalMs.toNat ≤ 2147483647) :
    exec .uSample s = .next { s with
      cnt := 0#32
      ovf := false
      fault := if s.ovf then s.fault ||| 4#4 else s.fault
      meas := zext32 (velq s.cnt.toNat s.cfg.intervalMs.toNat)
      phase := phPi } := by
  have hs : execUSample s = .next _ := if_neg hi
  obtain ⟨_, ⟨_, ht⟩ | ⟨hbig, _⟩⟩ := execUSample_next hs
  · exact hs.trans (congrArg _ ht)
  · exact absurd hv (Nat.not_le.2 hbig)

/-- `uSAMPLE` of a velocity that does not fit (R183, R206). -/
theorem exec_uSample_of_not_fits (hi : s.cfg.intervalMs ≠ 0#32)
    (hv : 2147483647 < velq s.cnt.toNat s.cfg.intervalMs.toNat) :
    exec .uSample s = .next { s with
      cnt := 0#32
      ovf := false
      fault := (if s.ovf then s.fault ||| 4#4 else s.fault) ||| 2#4
      run := false
      phase := phWait } := by
  have hs : execUSample s = .next _ := if_neg hi
  obtain ⟨_, ⟨hsmall, _⟩ | ⟨_, ht⟩⟩ := execUSample_next hs
  · exact absurd hsmall (Nat.not_le.2 hv)
  · exact hs.trans (congrArg _ ht)

/-- Settles O18: the word after the countdown is one below a timer that is not 0. -/
theorem waitCountsDown : Obligations.WaitCountsDown :=
  ⟨rfl, fun s ht => ⟨s.tmr - 1#32, by bv_omega, execUWait_eq ht⟩⟩

/-- Settles O19: the truncated velocity fits a word exactly where `uSAMPLE` measures it. -/
theorem sampleMeasuresOrTerminates : Obligations.SampleMeasuresOrTerminates := by
  refine ⟨rfl, fun s => ⟨fun hlow => ?_, fun hne hhigh => ?_⟩⟩
  · have hi : 0 < s.cfg.intervalMs.toNat := by omega
    have hfit := (velq_le_iff hi).2 hlow
    obtain ⟨hle, hlt⟩ := velq_bounds s.cnt.toNat s.cfg.intervalMs.toNat hi
    have hword := zext32_toNat _ (Nat.lt_of_le_of_lt hfit (by decide))
    exact ⟨zext32 (velq s.cnt.toNat s.cfg.intervalMs.toNat), by rwa [hword], by rwa [hword], by omega,
      exec_uSample_of_fits (by bv_omega) hfit⟩
  · have hi : 0 < s.cfg.intervalMs.toNat := by bv_omega
    exact exec_uSample_of_not_fits hne (Nat.not_le.1 fun hfit => Nat.not_lt.2 hhigh ((velq_le_iff hi).1 hfit))

/-- Settles O20: the two products are `mulq`, the two clamps are those of the words that are stored. -/
theorem piComputesTheStep : Obligations.PiComputesTheStep := by
  refine ⟨rfl, fun s hb => ?_⟩
  obtain ⟨hple, hplt⟩ := mulq_bounds s.cfg.kp.toInt (s.cfg.target.toInt - s.meas.toInt)
  obtain ⟨htle, htlt⟩ := mulq_bounds s.cfg.ki.toInt (s.cfg.target.toInt - s.meas.toInt)
  refine ⟨_, _, (s.piWords s.cfg.target s.meas).1, (s.piWords s.cfg.target s.meas).2, hple, hplt, htle, htlt, ?_, ?_,
    exec_uPi_of_ordered hb⟩
  · rw [s.piWords_integ_toInt _ _ hb, clamp_eq_max_min _ _ _ hb]
  · rw [s.piWords_out_toInt _ _ hb, clamp_eq_max_min _ _ _ (by decide)]

/-- Settles O21: the word that is driven is the duty word of `OUT`. -/
theorem applyPhaseDrivesTheDuty : Obligations.ApplyPhaseDrivesTheDuty := by
  refine ⟨rfl, fun s => ?_⟩
  obtain ⟨hle, hlt⟩ := s.dutyWord_bounds s.out
  exact ⟨s.dutyWord s.out, hle, hlt, rfl⟩

/-- Settles O22: both forms of `RUN` clear it with a pending request and keep it otherwise. -/
theorem diagClosesTheCycle : Obligations.DiagClosesTheCycle := by
  refine ⟨rfl, fun s => ?_⟩
  have hrun : (if s.stopReq then false else s.run) = (s.run && !s.stopReq) := by cases s.stopReq <;> simp
  rw [hrun]
  exact execUDiag_eq s

/-- Settles O31: the sequencer has no step there, so the agent step comes to no task. -/
theorem sequencerIdlesWhenNotEnabled : Obligations.SequencerIdlesWhenNotEnabled := by
  intro s rest hin hp hidle
  have hoff : ({ s with inputs := rest } : State).seqEnabled = false := by
    rcases hidle with hrun | hwait
    · simp [State.seqEnabled, hrun]
    · simp [State.seqEnabled, hwait]
  rw [step_of_scheduled hin hp]
  simp [select, hoff, runTask]

/-! ## The moves of the loop -/

/-- `CANCEL` has one command word (R83). -/
theorem decodeCommand_eq_cancel_iff : decodeCommand c = .ok .cancel ↔ c.cmd = 0x09#8 := by
  constructor
  · intro hd
    obtain ⟨_, x, y, z, henc, _⟩ := encodeOfDecodeIsTheWord.1 c _ hd
    have hword : formatO 9 = c.cmd := congrArg Command.cmd (Code.command.inj henc)
    exact hword.symm
  · intro hcmd
    obtain ⟨cmd, x, y, z⟩ := c
    cases hcmd
    exact cancelRequestsTheStop.1 x y z

/-- What a `CANCEL` answers (R187). -/
theorem perform_cancel_next (h : perform (.command c) s = .next t) (hd : decodeCommand c = .ok .cancel) :
    t = { s with
      stopReq := true
      run := s.run && !decide (s.phase = phWait)
      rc := 0#3
      res := 0#32
      res2 := 0#32 } := by
  obtain ⟨hr, _⟩ | ⟨_, _, ht⟩ := perform_next h
  · cases hr
  · simp only [select, hd, runTask, exec, execCancel_eq] at ht
    exact (Host.Outcome.next.inj ht).symm

/-- No command but `CANCEL` reaches `RUN`, `PHASE` or `STOP_REQ`. -/
theorem CommandEffect.keeps_loop_of_ne_cancel (he : CommandEffect i s t) (hi : i ≠ .cancel) :
    t.run = s.run ∧ t.phase = s.phase ∧ t.stopReq = s.stopReq := by
  cases he with
  | cancelled hc => exact absurd hc hi
  | refused | answered | cleared | controlled | driven => exact ⟨rfl, rfl, rfl⟩

/-- A command moves the loop if it is a `CANCEL` in a running wait, and not otherwise. -/
theorem perform_command_loopMove (h : perform (.command c) s = .next t) :
    (t.run, t.phase) = loopMove (.command c) s := by
  by_cases hc : decodeCommand c = .ok .cancel
  · cases perform_cancel_next h hc
    have hword := decodeCommand_eq_cancel_iff.1 hc
    by_cases hp : s.phase = 0#3
    · cases hrun : s.run <;> simp [loopMove, hword, hp, hrun]
    · simp [loopMove, hword, hp]
  · have hword : c.cmd ≠ 0x09#8 := fun hw => hc (decodeCommand_eq_cancel_iff.2 hw)
    have hkept : t.run = s.run ∧ t.phase = s.phase := by
      cases perform_effect h with
      | illegal => exact ⟨rfl, rfl⟩
      | command hd he =>
        obtain ⟨hrun, hp, _⟩ := he.keeps_loop_of_ne_cancel fun hi => hc (hi ▸ hd)
        exact ⟨hrun, hp⟩
    simp [loopMove, hword, hkept]

/-- Every agent step that answers a next state moves the loop as the table of R180 says. -/
theorem perform_loopMove (h : perform a s = .next t) : (t.run, t.phase) = loopMove a s := by
  cases perform_effect h with
  | reset | edgeCounted | edgeFlagged => rfl
  | waitEnded hrun hp ht hl =>
    have hlast : s.tmr.toNat = 1 := by bv_omega
    simp [loopMove, hrun, hp, hlast]
  | waitCounted hrun hp ht hl =>
    have hmore : s.tmr.toNat ≠ 1 := by bv_omega
    simp [loopMove, hmore]
  | tickIdle hidle => exact (if_neg fun hw => hidle ⟨hw.1, hw.2.1⟩).symm
  | sampled hrun hp hv | terminated hrun hp hv => simp [loopMove, hrun, hp, hv]
  | controlled hrun hp | driven hrun hp | closed hrun hp => simp [loopMove, hrun, hp]
  | seqIdle hidle => rcases hidle with hi | hi <;> simp [loopMove, hi]
  | illegal | command => exact perform_command_loopMove h

/-- Settles O49: the table does not speak of the schedule, which taking the next agent step moves on. -/
theorem loopMovesAreTheTable : Obligations.LoopMovesAreTheTable := by
  intro s t _ hs
  have hmove := perform_loopMove hs
  rw [s.nextInput_snd] at hmove
  exact hmove

/-! ## The terminated loop and the running one -/

/-- A command to a terminated loop reaches its counter, its controller and its duty only (R190). -/
theorem CommandEffect.keeps_stopped (he : CommandEffect i s t) (hstop : s.run = false) :
    t.run = false ∧ t.phase = s.phase ∧ t.tmr = s.tmr ∧ t.meas = s.meas ∧ t.diag = s.diag := by
  cases he with
  | cancelled => exact ⟨by simp [hstop], rfl, rfl, rfl, rfl⟩
  | refused | answered | cleared | controlled | driven => exact ⟨hstop, rfl, rfl, rfl, rfl⟩

/-- Every step but `RESET` leaves a terminated loop terminated, and only commands reach its controller and its duty. -/
theorem StepEffect.keeps_stopped (he : StepEffect s a t) (hstop : s.run = false) (ha : a ≠ .reset) :
    t.run = false ∧ t.phase = s.phase ∧ t.tmr = s.tmr ∧ t.meas = s.meas ∧ t.diag = s.diag ∧
      ((∀ c, a ≠ .command c) → t.integ = s.integ ∧ t.out = s.out ∧ t.duty = s.duty) := by
  cases he with
  | reset => exact absurd rfl ha
  | waitEnded hrun | waitCounted hrun | sampled hrun | terminated hrun | controlled hrun | driven hrun
    | closed hrun => simp [hstop] at hrun
  | edgeCounted | edgeFlagged | tickIdle | seqIdle | illegal =>
    exact ⟨hstop, rfl, rfl, rfl, rfl, fun _ => ⟨rfl, rfl, rfl⟩⟩
  | command _ he =>
    obtain ⟨hrun, hp, ht, hm, hd⟩ := he.keeps_stopped hstop
    exact ⟨hrun, hp, ht, hm, hd, fun hno => absurd rfl (hno _)⟩

/-- Settles O50: no effect but that of `RESET` leaves the terminated state. -/
theorem terminatedStateIsAbsorbing : Obligations.TerminatedStateIsAbsorbing := by
  intro s t hstop hs ha
  obtain ⟨_, _, he⟩ := step_effect hs
  exact he.keeps_stopped hstop ha

/-- Without `RESET` and `CANCEL` nothing requests a stop, and only a velocity that does not fit stops the loop. -/
theorem StepEffect.keeps_running (he : StepEffect s a t) (hrun : s.run = true) (hreq : s.stopReq = false)
    (ha : SparesWait a) : t.stopReq = false ∧ (t.fault.getLsbD 1 = false → t.run = true) := by
  cases he with
  | reset => exact absurd rfl ha.1
  | terminated => exact ⟨hreq, fun hnum => by simp at hnum⟩
  | closed => exact ⟨hreq, fun _ => by simp [hrun, hreq]⟩
  | command hd he =>
    obtain ⟨hrun', _, hreq'⟩ := he.keeps_loop_of_ne_cancel fun hi => ha.2 _ rfl (hi ▸ hd)
    exact ⟨hreq'.trans hreq, fun _ => hrun'.trans hrun⟩
  | edgeCounted | edgeFlagged | waitEnded | waitCounted | tickIdle | sampled | controlled | driven | seqIdle
    | illegal => exact ⟨hreq, fun _ => hrun⟩

/-- Settles O51: of the effects without `RESET` and `CANCEL` only one stops the loop, and it sets `FAULT.NUM`. -/
theorem loopNeverStopsByItself : Obligations.LoopNeverStopsByItself := by
  intro s t _ hrun hreq hs ha hcancel
  obtain ⟨_, _, he⟩ := step_effect hs
  exact he.keeps_running hrun hreq ⟨ha, hcancel⟩

/-! ## How many sequencer steps the loop is from `WAIT` -/

/-- The sequencer steps that a phase is from `WAIT`. -/
def seqLeft (p : BitVec 3) : Nat := if p = 0#3 then 0 else 5 - p.toNat

theorem seqLeft_le_four (p : BitVec 3) : seqLeft p ≤ 4 := by
  unfold seqLeft
  split
  · omega
  · bv_omega

theorem seqLeft_eq_zero_iff {p : BitVec 3} (hp : p.toNat ≤ 4) : seqLeft p = 0 ↔ p = 0#3 := by
  unfold seqLeft
  split
  · simp [*]
  · simp only [*, iff_false]
    omega

/-- Outside a running wait a sequencer step brings the loop one nearer to `WAIT`, or all the way, and no other step but
`RESET` takes it away from there. -/
theorem seqLeft_loopMove_le (h : Inv s) (hout : s.run = true → s.phase ≠ 0#3) (ha : a ≠ .reset) :
    seqLeft (loopMove a s).2 ≤ seqLeft s.phase - if a = .seq then 1 else 0 := by
  cases hrun : s.run with
  | false =>
    have hp := h.stoppedInWait hrun
    cases a with
    | reset => exact absurd rfl ha
    | edge | tick | seq | command => simp [loopMove, hrun, hp, seqLeft]
  | true =>
    have hne := hout hrun
    cases a with
    | reset => exact absurd rfl ha
    | edge | tick | command => simp [loopMove, hne]
    | seq =>
      obtain hp | hp | hp | hp | hp := phase_cases s.phase h.phaseLegal
      · exact absurd hp hne
      · by_cases hv : velq s.cnt.toNat s.cfg.intervalMs.toNat ≤ 2147483647 <;> simp [loopMove, hrun, hp, hv, seqLeft]
      · simp [loopMove, hrun, hp, seqLeft]
      · simp [loopMove, hrun, hp, seqLeft]
      · simp [loopMove, hrun, hp, seqLeft]

/-- Under the invariants a scheduled agent step has one of its effects, and leaves what comes after it scheduled. -/
theorem step_effect_of_scheduled (h : Inv s) (hin : s.inputs = a :: rest) :
    ∃ u, step s = .next u ∧ Inv u ∧ u.inputs = rest ∧ StepEffect { s with inputs := rest } a u := by
  obtain ⟨u, hs, hinv⟩ := step_progress h
  have he : StepEffect { s with inputs := rest } a u :=
    perform_effect (by rwa [step, State.nextInput_of_cons hin] at hs)
  exact ⟨u, hs, hinv, he.inputs_eq, he⟩

/-- Outside a running wait a scheduled step leaves no more sequencer steps to take than the schedule has left. -/
theorem seqLeft_step_le_count (h : Inv s) (hs : step s = .next u) (hin : s.inputs = a :: (l ++ rest)) (ha : a ≠ .reset)
    (hout : s.run = true → s.phase ≠ 0#3) (hleft : seqLeft s.phase ≤ (a :: l).count .seq) :
    seqLeft u.phase ≤ l.count .seq := by
  have hmove := loopMovesAreTheTable s u h hs
  rw [State.nextInput_of_cons hin] at hmove
  have hphase : u.phase = (loopMove a s).2 := congrArg Prod.snd hmove
  have hle := seqLeft_loopMove_le h hout ha
  rw [← hphase] at hle
  simp only [List.count_cons, beq_iff_eq] at hleft
  omega

/-- A schedule with enough sequencer steps passes through `WAIT`, by induction on the schedule: a state that is not
there yet is outside a running wait. -/
theorem exists_wait_of_seqLeft_le (h : Inv s) (hin : s.inputs = l ++ rest) (hl : ∀ a ∈ l, a ≠ .reset)
    (hleft : seqLeft s.phase ≤ l.count .seq) : ∃ j t, j ≤ l.length ∧ steps j s = .next t ∧ t.phase = 0#3 := by
  induction l generalizing s with
  | nil => exact ⟨0, s, le_rfl, steps_zero s, (seqLeft_eq_zero_iff h.phaseLegal).1 (Nat.le_zero.1 hleft)⟩
  | cons a l ih =>
    by_cases hp : s.phase = 0#3
    · exact ⟨0, s, Nat.zero_le _, steps_zero s, hp⟩
    · obtain ⟨u, hs, hinv, hmoved, _⟩ := step_effect_of_scheduled h hin
      have hleft' := seqLeft_step_le_count h hs hin (hl a List.mem_cons_self) (fun _ => hp) hleft
      obtain ⟨j, t, hj, hrun, ht⟩ := ih hinv hmoved (fun b hb => hl b (List.mem_cons_of_mem a hb)) hleft'
      exact ⟨j + 1, t, Nat.succ_le_succ hj, (steps_succ j hs).trans hrun, ht⟩

/-- Settles O57: no phase is more than four sequencer steps from `WAIT`. -/
theorem sequencerReturnsToTheWait : Obligations.SequencerReturnsToTheWait :=
  fun _ _ _ h hin hl hcount => exists_wait_of_seqLeft_le h hin hl ((seqLeft_le_four _).trans hcount)

/-! ## A cancelled loop -/

/-- Only `RESET` takes a request to stop back (R32). -/
theorem StepEffect.keeps_stopReq (he : StepEffect s a t) (ha : a ≠ .reset) (hreq : s.stopReq = true) :
    t.stopReq = true := by
  cases he with
  | reset => exact absurd rfl ha
  | command _ he =>
    cases he with
    | cancelled => rfl
    | refused | answered | cleared | controlled | driven => exact hreq
  | edgeCounted | edgeFlagged | waitEnded | waitCounted | tickIdle | sampled | terminated | controlled | driven
    | closed | seqIdle | illegal => exact hreq

/-- A schedule with enough sequencer steps leaves a cancelled loop in `WAIT`, by induction on the schedule: the request
stays, and so the loop is never in a running wait. -/
theorem steps_cancelled (h : Inv s) (hreq : s.stopReq = true) (hin : s.inputs = l ++ rest) (hl : ∀ a ∈ l, a ≠ .reset)
    (hleft : seqLeft s.phase ≤ l.count .seq) :
    ∃ t, steps l.length s = .next t ∧ Inv t ∧ t.stopReq = true ∧ t.phase = 0#3 := by
  induction l generalizing s with
  | nil => exact ⟨s, steps_zero s, h, hreq, (seqLeft_eq_zero_iff h.phaseLegal).1 (Nat.le_zero.1 hleft)⟩
  | cons a l ih =>
    have ha := hl a List.mem_cons_self
    obtain ⟨u, hs, hinv, hmoved, he⟩ := step_effect_of_scheduled h hin
    have hleft' := seqLeft_step_le_count h hs hin ha (fun hrun => h.stopPending hrun hreq) hleft
    obtain ⟨t, hrun, ht⟩ := ih hinv (he.keeps_stopReq ha hreq) hmoved
      (fun b hb => hl b (List.mem_cons_of_mem a hb)) hleft'
    exact ⟨t, (steps_succ l.length hs).trans hrun, ht⟩

/-- Settles O56: the cancelled loop ends in `WAIT` with the request pending, and the invariants allow that to a
terminated loop only. -/
theorem cancelStopsWithinTheCycle : Obligations.CancelStopsWithinTheCycle := by
  intro s l rest h hreq hin hl hcount
  obtain ⟨t, hs, hinv, hreq', hp⟩ := steps_cancelled h hreq hin hl ((seqLeft_le_four _).trans hcount)
  exact ⟨t, hs, eq_false_of_ne_true fun hrun => hinv.stopPending hrun hreq' hp, hp⟩

/-! ## One cycle -/

/-- The registers that a cycle reads and writes after its `uSAMPLE`. -/
@[ext]
structure LoopRegisters where
  cfg : Config
  run : Bool
  phase : BitVec 3
  integ : Word
  meas : Word
  out : Word
  duty : Word
  diag : List (Word × Word)

/-- The loop's registers in a state. -/
def State.loop (s : State) : LoopRegisters where
  cfg := s.cfg
  run := s.run
  phase := s.phase
  integ := s.integ
  meas := s.meas
  out := s.out
  duty := s.duty
  diag := s.diag

theorem State.loop_eq_iff : t.loop = s.loop ↔
    t.cfg = s.cfg ∧ t.run = s.run ∧ t.phase = s.phase ∧ t.integ = s.integ ∧ t.meas = s.meas ∧ t.out = s.out ∧
      t.duty = s.duty ∧ t.diag = s.diag :=
  LoopRegisters.ext_iff

/-- An edge, a tick or a command outside `WAIT` reaches none of a running loop's registers. -/
theorem StepEffect.loop_eq (he : StepEffect s a t) (hrun : s.run = true) (hp : s.phase ≠ 0#3)
    (ha : a ≠ .seq ∧ a ≠ .reset) : t.loop = s.loop := by
  cases he with
  | reset => exact absurd rfl ha.2
  | sampled | terminated | controlled | driven | closed | seqIdle => exact absurd rfl ha.1
  | waitEnded _ hwait | waitCounted _ hwait => exact absurd hwait hp
  | edgeCounted | edgeFlagged | tickIdle | illegal => rfl
  | command _ he =>
    obtain ⟨hframe, hgoes, _⟩ := he.frame_of_running hrun
    have hrun' := (hgoes hp).trans hrun.symm
    rw [hframe]
    exact State.loop_eq_iff.2 ⟨rfl, hrun', rfl, rfl, rfl, rfl, rfl, rfl⟩

/-- What falls between two sequencer steps leaves the loop's registers, by induction on it. -/
theorem steps_between (h : Inv s) (hrun : s.run = true) (hp : s.phase ≠ 0#3) (hin : s.inputs = l ++ rest)
    (hl : ∀ a ∈ l, a ≠ .seq ∧ a ≠ .reset) :
    ∃ t, steps l.length s = .next t ∧ Inv t ∧ t.inputs = rest ∧ t.loop = s.loop := by
  induction l generalizing s with
  | nil => exact ⟨s, steps_zero s, h, hin, rfl⟩
  | cons a l ih =>
    obtain ⟨u, hs, hinv, hmoved, he⟩ := step_effect_of_scheduled h hin
    have hloop : u.loop = s.loop := he.loop_eq hrun hp (hl a List.mem_cons_self)
    obtain ⟨_, hrun', hp', _⟩ := State.loop_eq_iff.1 hloop
    obtain ⟨t, ht, hinv', hrest, hloop'⟩ := ih hinv (hrun'.trans hrun) (fun h0 => hp (hp'.symm.trans h0)) hmoved
      fun b hb => hl b (List.mem_cons_of_mem a hb)
    exact ⟨t, (steps_succ l.length hs).trans ht, hinv', hrest, hloop'.trans hloop⟩

/-- A sequencer step into a running phase, and what falls before the next one: the loop's registers are those that the
micro-operation left. -/
theorem steps_seq_between (h : Inv s) (hrun : s.run = true) (hp : s.phase ≠ 0#3) (hd : decodePhase s.phase = .ok i)
    (hin : s.inputs = .seq :: (l ++ rest)) (hl : ∀ a ∈ l, a ≠ .seq ∧ a ≠ .reset)
    (he : exec i { s with inputs := l ++ rest } = .next u) (hrun' : u.run = true) (hp' : u.phase ≠ 0#3) :
    ∃ t, steps (l.length + 1) s = .next t ∧ Inv t ∧ t.inputs = rest ∧ t.loop = u.loop := by
  have hs : step s = .next u := (step_seq_of_ok hin hrun hp hd).trans he
  obtain ⟨_, hu, hinv, hmoved, _⟩ := step_effect_of_scheduled h hin
  cases hs.symm.trans hu
  rw [steps_succ l.length hs]
  exact steps_between hinv hrun' hp' hmoved hl

/-- `uSAMPLE` of a velocity that fits, and what falls before the next sequencer step (R183). -/
theorem steps_uSample (h : Inv s) (hrun : s.run = true) (hp : s.phase = 1#3) (hin : s.inputs = .seq :: (l ++ rest))
    (hl : ∀ a ∈ l, a ≠ .seq ∧ a ≠ .reset) (hv : velq s.cnt.toNat s.cfg.intervalMs.toNat ≤ 2147483647) :
    ∃ t, steps (l.length + 1) s = .next t ∧ Inv t ∧ t.inputs = rest ∧
      t.loop = { s.loop with meas := zext32 (velq s.cnt.toNat s.cfg.intervalMs.toNat), phase := phPi } := by
  have hi := ((cfgValid_iff s.cfg).1 (h.runningValid hrun)).1
  exact steps_seq_between h hrun (hp ▸ by decide) (hp ▸ rfl) hin hl
    (exec_uSample_of_fits (s := { s with inputs := l ++ rest }) hi hv) hrun (by decide : phPi ≠ 0#3)

/-- `uPI`, and what falls before the next sequencer step (R184). -/
theorem steps_uPi (h : Inv s) (hrun : s.run = true) (hp : s.phase = 2#3) (hin : s.inputs = .seq :: (l ++ rest))
    (hl : ∀ a ∈ l, a ≠ .seq ∧ a ≠ .reset) :
    ∃ t, steps (l.length + 1) s = .next t ∧ Inv t ∧ t.inputs = rest ∧
      t.loop = { s.loop with
        integ := (s.piWords s.cfg.target s.meas).1
        out := (s.piWords s.cfg.target s.meas).2
        phase := phApply } := by
  have hb := ((cfgValid_iff s.cfg).1 (h.runningValid hrun)).2
  exact steps_seq_between h hrun (hp ▸ by decide) (hp ▸ rfl) hin hl
    (exec_uPi_of_ordered (s := { s with inputs := l ++ rest }) hb) hrun (by decide : phApply ≠ 0#3)

/-- `uAPPLY`, and what falls before the next sequencer step (R185). -/
theorem steps_uApply (h : Inv s) (hrun : s.run = true) (hp : s.phase = 3#3) (hin : s.inputs = .seq :: (l ++ rest))
    (hl : ∀ a ∈ l, a ≠ .seq ∧ a ≠ .reset) :
    ∃ t, steps (l.length + 1) s = .next t ∧ Inv t ∧ t.inputs = rest ∧
      t.loop = { s.loop with duty := s.dutyWord s.out, phase := phDiag } :=
  steps_seq_between (i := .uApply) h hrun (hp ▸ by decide) (hp ▸ rfl) hin hl rfl hrun (by decide : phDiag ≠ 0#3)

/-- `MEAS`, `INTEG`, `OUT` and `DUTY` hold the values of a cycle. -/
structure State.Holds (s : State) (v : CycleValues) : Prop where
  meas : s.meas.toNat = v.meas
  integ : s.integ.toInt = v.integ
  out : s.out.toInt = v.out
  duty : s.duty.toNat = v.duty

/-- The stored velocity of a count, read unsigned and signed. -/
theorem zext32_velq {count interval : Nat} (hv : velq count interval ≤ 2147483647) :
    (zext32 (velq count interval)).toNat = velq count interval ∧
      (zext32 (velq count interval)).toInt = velq count interval := by
  have hn := zext32_toNat (velq count interval) (Nat.lt_of_le_of_lt hv (by decide))
  exact ⟨hn, by rw [BitVec.toInt_eq_toNat_of_lt (by omega), hn]⟩

/-- From a `uSAMPLE` with a velocity that fits up to the `uDIAG` after it: the four registers hold the cycle of the
count that was read, since each sequencer step finds the registers that the one before it left. -/
theorem steps_sample_to_diag (h : Inv s) (hrun : s.run = true) (hp : s.phase = 1#3)
    (hin : s.inputs = .seq :: (l1 ++ .seq :: (l2 ++ .seq :: (l3 ++ rest))))
    (hl1 : ∀ a ∈ l1, a ≠ .seq ∧ a ≠ .reset) (hl2 : ∀ a ∈ l2, a ≠ .seq ∧ a ≠ .reset)
    (hl3 : ∀ a ∈ l3, a ≠ .seq ∧ a ≠ .reset) (hv : velq s.cnt.toNat s.cfg.intervalMs.toNat ≤ 2147483647) :
    ∃ t, steps (l1.length + 1 + (l2.length + 1 + (l3.length + 1))) s = .next t ∧ t.inputs = rest ∧ t.cfg = s.cfg ∧
      t.run = true ∧ t.phase = 4#3 ∧ t.diag = s.diag ∧ t.Holds (cycle s.cfg s.integ.toInt s.cnt.toNat) := by
  have hb := ((cfgValid_iff s.cfg).1 (h.runningValid hrun)).2
  obtain ⟨hmeas, hmeasInt⟩ := zext32_velq hv
  obtain ⟨s1, hs1, inv1, hin1, hloop1⟩ := steps_uSample h hrun hp hin hl1 hv
  have hcfg1 : s1.cfg = s.cfg := congrArg LoopRegisters.cfg hloop1
  have hinteg1 : s1.integ = s.integ := congrArg LoopRegisters.integ hloop1
  have hmeas1 : s1.meas = zext32 (velq s.cnt.toNat s.cfg.intervalMs.toNat) := congrArg LoopRegisters.meas hloop1
  obtain ⟨s2, hs2, inv2, hin2, hloop2⟩ :=
    steps_uPi inv1 ((congrArg LoopRegisters.run hloop1).trans hrun) (congrArg LoopRegisters.phase hloop1) hin1 hl2
  have hcfg2 : s2.cfg = s1.cfg := congrArg LoopRegisters.cfg hloop2
  have hout2 : s2.out = (s1.piWords s1.cfg.target s1.meas).2 := congrArg LoopRegisters.out hloop2
  rw [hloop1] at hloop2
  obtain ⟨s3, hs3, _, hin3, hloop3⟩ :=
    steps_uApply inv2 ((congrArg LoopRegisters.run hloop2).trans hrun) (congrArg LoopRegisters.phase hloop2) hin2 hl3
  rw [hloop2] at hloop3
  obtain ⟨hinteg, hout⟩ := s1.piWords_toInt s1.cfg.target s1.meas (hcfg1 ▸ hb)
  have hpi : piStep s1.cfg s1.integ.toInt s1.cfg.target.toInt s1.meas.toInt =
      piStep s.cfg s.integ.toInt s.cfg.target.toInt (velq s.cnt.toNat s.cfg.intervalMs.toNat) := by
    rw [hcfg1, hinteg1, hmeas1, hmeasInt]
  rw [hpi] at hinteg hout
  have hduty : (s2.dutyWord s2.out).toNat = (cycle s.cfg s.integ.toInt s.cnt.toNat).duty := by
    rw [s2.dutyWord_toNat, hcfg2, hcfg1, hout2, hout]
    rfl
  refine ⟨s3, ?_, hin3, congrArg LoopRegisters.cfg hloop3, (congrArg LoopRegisters.run hloop3).trans hrun,
    congrArg LoopRegisters.phase hloop3, congrArg LoopRegisters.diag hloop3, ?_⟩
  · rw [steps_trans _ _ hs1, steps_trans _ _ hs2, hs3]
  · exact {
      meas := (congrArg (fun r => r.meas.toNat) hloop3).trans hmeas
      integ := (congrArg (fun r => r.integ.toInt) hloop3).trans hinteg
      out := (congrArg (fun r => r.out.toInt) hloop3).trans hout
      duty := (congrArg (fun r => r.duty.toNat) hloop3).trans hduty }

/-- Settles O55: the four registers hold the cycle when the `uDIAG` comes, which reports them and closes the cycle. -/
theorem cycleIsOneFunction : Obligations.CycleIsOneFunction := by
  intro s l1 l2 l3 rest h hrun hp hin hl hv
  obtain ⟨⟨hl1, hl2⟩, hl3⟩ : ((∀ a ∈ l1, a ≠ .seq ∧ a ≠ .reset) ∧ ∀ a ∈ l2, a ≠ .seq ∧ a ≠ .reset) ∧
      ∀ a ∈ l3, a ≠ .seq ∧ a ≠ .reset := by
    rwa [List.forall_mem_append, List.forall_mem_append] at hl
  have hsched : s.inputs = .seq :: (l1 ++ .seq :: (l2 ++ .seq :: (l3 ++ .seq :: rest))) := by simpa using hin
  obtain ⟨u, hu, hin', hcfg, hrun', hp', hdiag, hholds⟩ := steps_sample_to_diag h hrun hp hsched hl1 hl2 hl3 hv
  obtain ⟨_, _, _, hlast⟩ := (phaseSelectsTheMicroOperation u rest hrun').2 hin'
  have hs := (hlast hp').trans (execUDiag_eq { u with inputs := rest })
  have hall := (steps_trans _ 1 hu).trans (steps_succ 0 hs)
  rw [show l1.length + 1 + (l2.length + 1 + (l3.length + 1)) + 1 = l1.length + l2.length + l3.length + 4 by omega]
    at hall
  exact ⟨_, hall, hholds.meas, hholds.integ, hholds.out, hholds.duty, by simp only [hcfg, hdiag], rfl,
    congrArg Config.intervalMs hcfg, rfl⟩

end Sys2Proof.Machine

/-! ## A command that is not answered `OK` -/

namespace Sys2Proof.Machine

variable {s t : State} {c : Command} {i : Instr}

/-- Of the effects of a legal command, only a refusal leaves `RC` not 0 (R202). -/
theorem CommandEffect.exists_refuse_of_rc_ne (h : CommandEffect i s t) (hrc : t.rc ≠ 0#3) : ∃ e, t = s.refuse e := by
  cases h with
  | refused e => exact ⟨e, rfl⟩
  | _ => exact absurd rfl hrc

/-- A command step that leaves `RC` not 0 is a refusal, of an illegal word or by the operation (R202, R207). -/
theorem StepEffect.exists_refuse_of_rc_ne (h : StepEffect s (.command c) t) (hrc : t.rc ≠ 0#3) :
    ∃ e, t = s.refuse e := by
  cases h with
  | illegal => exact ⟨.errIllegal, rfl⟩
  | command _ he => exact he.exists_refuse_of_rc_ne hrc

/-- Settles O9: the step is a refusal in the state with the schedule moved on, and a refusal writes `RC` and
`FAULT.CMD` only. -/
theorem refusedCommandsChangeNothingElse : Obligations.RefusedCommandsChangeNothingElse := by
  intro s t c rest hin hs hrc
  have he : StepEffect { s with inputs := rest } (.command c) t :=
    perform_effect (by rwa [step, State.nextInput_of_cons hin] at hs)
  obtain ⟨e, rfl⟩ := he.exists_refuse_of_rc_ne hrc
  rfl

end Sys2Proof.Machine

/-! ## `RESET` -/

namespace Sys2Proof.Machine

variable {s : State} {rest : List AgentStep}

theorem cfgValid_eq_decide (c : Config) :
    cfgValid c = decide (c.intervalMs ≠ 0#32 ∧ c.imin.toInt ≤ c.imax.toInt) := by
  rw [Bool.eq_iff_iff, cfgValid_iff, decide_eq_true_iff]

/-- A `RESET` is answered in every phase, a reserved one included (R31, R230). -/
theorem perform_reset (s : State) : perform .reset s = .next s.doReset := by
  unfold perform
  exact if_neg fun ⟨_, hne⟩ => hne rfl

theorem step_reset (hin : s.inputs = .reset :: rest) : step s = .next { s with inputs := rest }.doReset := by
  rw [step, State.nextInput_of_cons hin, perform_reset]

/-- The registers that `RESET` loads by the validity of the configuration, by the check of R231 spelled out. -/
theorem State.doReset_eq (s : State) :
    s.doReset = { s.doReset with
      run := decide (s.cfg.intervalMs ≠ 0#32 ∧ s.cfg.imin.toInt ≤ s.cfg.imax.toInt)
      fault := if s.cfg.intervalMs ≠ 0#32 ∧ s.cfg.imin.toInt ≤ s.cfg.imax.toInt then 0#4 else 1#4 } := by
  have hrun := s.doReset_run
  have hfault := s.doReset_fault
  simp only [cfgValid_eq_decide, decide_eq_true_eq] at hrun hfault
  rw [← hrun, ← hfault]

/-- Settles O32: the step is `doReset` of the state with the schedule moved on, which keeps the configuration. -/
theorem resetSetsEveryRegister : Obligations.ResetSetsEveryRegister := by
  intro s rest hin
  refine ⟨rest, s.envTime, ?_⟩
  rw [step_reset hin, State.doReset_eq]
  rfl

end Sys2Proof.Machine

/-! ## The decoder inverts the encoder -/

namespace Sys2Proof.Machine

variable {s : State} {c : Command} {i : Instr} {p : BitVec 3} {nbits w : Nat}

/-- Settles O35: a host command is encoded as a format `O` word, or `RDREG` as a format `R` word, each of which
decodes by its row, and a micro-operation is its `PHASE` (R82, R83, R87). -/
theorem decodeOfEncodeIsTheOperation : Obligations.DecodeOfEncodeIsTheOperation := by
  intro i hwf
  cases i with
  | rdreg n =>
    have hn : n.toNat ≤ 13 := of_decide_eq_true hwf
    exact decodeCommand_formatR hn 0 0 0
  | nop | tofix | fromfix | mul | clamp | vel | rdclr | pistep | apply | cancel =>
    rw [encode, decode]
    exact decodeCommand_formatO (by decide) rfl
  | uWait | uSample | uPi | uApply | uDiag => rfl

/-! ## Table words -/

theorem decodeTableWord_eq_some_iff :
    decodeTableWord nbits w = some i ↔ decode (codeOfTableWord nbits w) = .ok i := by
  unfold decodeTableWord
  cases decode (codeOfTableWord nbits w) <;> simp

theorem decodeTableWord_eq_none_of_error {r : Reject} (h : decode (codeOfTableWord nbits w) = .error r) :
    decodeTableWord nbits w = none := by
  rw [decodeTableWord, h]

/-- A table word that stands for the encoding of a well-formed operation decodes to it. -/
theorem decodeTableWord_of_eq_encode (hwf : i.wf = true) (h : codeOfTableWord nbits w = encode i) :
    decodeTableWord nbits w = some i :=
  decodeTableWord_eq_some_iff.2 (h ▸ decodeOfEncodeIsTheOperation i hwf)

/-- Settles O41: seven words are encodings; the `rn` of `11101010` is 14, and the phase `101` is 5. -/
theorem sampleWordsDecode : Obligations.SampleWordsDecode := by
  refine ⟨?_, ?_, ?_, ?_, ?_, ?_, ?_, ?_, ?_⟩
  · exact decodeTableWord_of_eq_encode (i := .mul 0 0) rfl rfl
  · exact decodeTableWord_of_eq_encode (i := .vel 0 0) rfl rfl
  · exact decodeTableWord_of_eq_encode (i := .rdclr) rfl rfl
  · exact decodeTableWord_of_eq_encode (i := .pistep 0 0) rfl rfl
  · exact decodeTableWord_of_eq_encode (i := .apply 0) rfl rfl
  · exact decodeTableWord_of_eq_encode (i := .rdreg 13) rfl rfl
  · exact Option.isNone_iff_eq_none.1 ((decodeTableWord_isNone_iff (by decide)).2 (by decide))
  · exact decodeTableWord_of_eq_encode (i := .uDiag) rfl rfl
  · exact decodeTableWord_eq_none_of_error (decodePhase_reserved 5#3 (by decide))

/-! ## The step after placing a code -/

/-- A placed command that decodes is the operation of the next step, in a legal phase. -/
theorem step_placeCode_command (hp : s.phase.toNat ≤ 4) (hd : decodeCommand c = .ok i) :
    step (s.placeCode (.command c)) = exec i s :=
  step_command_of_ok (s := s.placeCode (.command c)) (rest := s.inputs) rfl hp hd

/-- A placed `PHASE` that decodes is the micro-operation of the next step: the tick's in `WAIT`, else the sequencer's
(R87). -/
theorem step_placeCode_phase (hd : decodePhase p = .ok i) :
    step (s.placeCode (.phase p)) = exec i { s with run := true, phase := p } := by
  by_cases hp : p = phWait
  · have hin : (s.placeCode (.phase p)).inputs = .tick :: s.inputs := by simp [State.placeCode, hp]
    have hi : i = .uWait := by
      rw [hp] at hd
      cases hd
      rfl
    rw [hi]
    exact step_tick_of_waiting hin rfl hp
  · have hin : (s.placeCode (.phase p)).inputs = .seq :: s.inputs := by simp [State.placeCode, hp]
    exact step_seq_of_ok hin rfl hp hd

/-- Settles O40: the width of the word says whether a command or a `PHASE` is placed (entry 8). -/
theorem placedWordRunsNext : Obligations.PlacedWordRunsNext := by
  intro s nbits w i hdec
  rw [decodeTableWord_eq_some_iff] at hdec
  refine ⟨fun hlong hp => ?_, fun hshort => ?_⟩
  · have hcode : codeOfTableWord nbits w = .command (commandOfNat w) := if_neg (Nat.not_le.2 hlong)
    rw [hcode] at hdec
    rw [State.withFetchWord, hcode]
    exact step_placeCode_command hp hdec
  · have hcode : codeOfTableWord nbits w = .phase (BitVec.ofNat 3 w) := if_pos hshort
    rw [hcode] at hdec
    rw [State.withFetchWord, hcode]
    exact step_placeCode_phase hdec

end Sys2Proof.Machine
